-- ==== Sys2Proof/Word.lean ====
section
/-! DEFINITION. Sys2Proof/Word.lean: the two word types of PECF (00_scope.md section 4.1). -/

namespace Sys2Proof

/-- A byte, 8 bits, atomic at the transport port (20_memory.md R46). -/
abbrev Byte := BitVec 8

/-- A 16-bit value: a Channel Code (10_state.md R19), a PEC code (30_encoding.md R73) or a command
word (30_encoding.md R62). -/
abbrev Code := BitVec 16

end Sys2Proof
end

