-- ==== Sys2Proof/Syntax.lean ====
section
/-! DEFINITION. Sys2Proof/Syntax.lean: the operations of PECF, one constructor of `Instr` for each row
of spec/opcode_table.json: 13 host operations (30_encoding.md R74) and 12 wire command encoders
(41_command_encoder.md R112 to R123). -/

namespace Sys2Proof

/-- The twelve wire commands of 30_encoding.md R66. -/
inductive WireCmd where
  | adcv | adax | rdcva | rdcvb | rdcvc | rdcvd | rdauxa | rdauxb | rdcfg | wrcfg | clrcell | clraux
deriving DecidableEq, Repr

/-- The row of a wire command in the two parameter vectors `OPC_*` and `WAKE_POLICY`. -/
def WireCmd.idx : WireCmd → Fin 12
  | .adcv => 0 | .adax => 1 | .rdcva => 2 | .rdcvb => 3 | .rdcvc => 4 | .rdcvd => 5
  | .rdauxa => 6 | .rdauxb => 7 | .rdcfg => 8 | .wrcfg => 9 | .clrcell => 10 | .clraux => 11

/-- The retry bound operand (30_encoding.md R72): `UNBOUNDED`, or a count 0..65535. -/
inductive MaxRetry where
  | unbounded
  | count (m : BitVec 16)
deriving DecidableEq, Repr

/-- Where an instruction enters PECF: a request message at the host port (30_encoding.md R74), or the
16-bit command word of an internal encoder call (30_encoding.md R62, R66). -/
inductive Port where
  | host
  | wire
deriving DecidableEq, Repr

/-- The operations of spec/opcode_table.json, in the table's order. Numeric operands of the host
operations are natural numbers, legal or not: an illegal one is rejected by the operation itself
(30_encoding.md R76), not by the decoder. -/
inductive Instr where
  /-- `compute(bytes)` (40_checksum.md R101). -/
  | peccomp (bytes : List Byte)
  /-- `verify(bytes, expected)` (40_checksum.md R102). -/
  | pecverify (bytes : List Byte) (expected : Code)
  /-- `configure(mode, dcp, ch, chg)` (41_command_encoder.md R110). -/
  | configure (mode dcp ch chg : Nat)
  /-- `read_group` for the cell groups (42_register_access.md R145). -/
  | rdcv (g n : Nat)
  /-- `read_group` for the auxiliary groups (42_register_access.md R146). -/
  | rdaux (g n : Nat)
  /-- `write_configuration(device_count, blocks)` (42_register_access.md R150); `blocks` is the buffer
  CFGTX of 20_memory.md R40. -/
  | wrcfg (n : Nat) (blocks : List (Vector Byte 6))
  /-- `read_configuration(device_count)` (42_register_access.md R149). -/
  | rdcfg (n : Nat)
  /-- `sample_all`, `sample_voltages` (43_orchestrator.md R171). -/
  | samplev (n : Nat) (maxRetry : MaxRetry)
  /-- `sample_aux` (43_orchestrator.md R172). -/
  | sampleaux (n : Nat) (maxRetry : MaxRetry)
  /-- start-voltage-conversion, issued alone (42_register_access.md R151). -/
  | adcv
  /-- start-aux-conversion, issued alone (42_register_access.md R152). -/
  | adax
  /-- clear-cell-registers (42_register_access.md R153). -/
  | clrcell
  /-- clear-aux-registers (42_register_access.md R154). -/
  | clraux
  /-- The start-voltage-conversion encoder (41_command_encoder.md R112). The fields are those of the
  fetched command word (30_encoding.md R67); the encoder itself takes no input from its caller and
  reads the registers MD, DCP, CH, which are what those fields hold (log 17). -/
  | encAdcv (md : BitVec 2) (dcp : BitVec 1) (ch : BitVec 3)
  /-- The start-aux-conversion encoder (41_command_encoder.md R113), fields as for `encAdcv`
  (30_encoding.md R68). -/
  | encAdax (md : BitVec 2) (chg : BitVec 3)
  /-- read-cell-group A frame (41_command_encoder.md R114). -/
  | encRdcva
  /-- read-cell-group B frame (41_command_encoder.md R115). -/
  | encRdcvb
  /-- read-cell-group C frame (41_command_encoder.md R116). -/
  | encRdcvc
  /-- read-cell-group D frame (41_command_encoder.md R117). -/
  | encRdcvd
  /-- read-aux-group A frame (41_command_encoder.md R118). -/
  | encRdauxa
  /-- read-aux-group B frame (41_command_encoder.md R119). -/
  | encRdauxb
  /-- read-configuration frame (41_command_encoder.md R120). -/
  | encRdcfg
  /-- write-configuration frame (41_command_encoder.md R121). -/
  | encWrcfg
  /-- clear-cell-registers frame (41_command_encoder.md R122). -/
  | encClrcell
  /-- clear-aux-registers frame (41_command_encoder.md R123). -/
  | encClraux
deriving DecidableEq, Repr

/-- The port at which an instruction is presented. -/
def Instr.port : Instr → Port
  | .peccomp _ => .host
  | .pecverify _ _ => .host
  | .configure _ _ _ _ => .host
  | .rdcv _ _ => .host
  | .rdaux _ _ => .host
  | .wrcfg _ _ => .host
  | .rdcfg _ => .host
  | .samplev _ _ => .host
  | .sampleaux _ _ => .host
  | .adcv => .host
  | .adax => .host
  | .clrcell => .host
  | .clraux => .host
  | .encAdcv _ _ _ => .wire
  | .encAdax _ _ => .wire
  | .encRdcva => .wire
  | .encRdcvb => .wire
  | .encRdcvc => .wire
  | .encRdcvd => .wire
  | .encRdauxa => .wire
  | .encRdauxb => .wire
  | .encRdcfg => .wire
  | .encWrcfg => .wire
  | .encClrcell => .wire
  | .encClraux => .wire

end Sys2Proof
end

