-- ==== Sys2Proof/WellFormed.lean ====
section
/-! DEFINITION. Sys2Proof/WellFormed.lean: which instructions the host format can carry (log 13): every
numeric operand fits its one byte, and WRCFG carries exactly `n` blocks. Legality of an operand
(1 ≤ n ≤ 16, a known selector, a known mode) is no matter of form: it is checked by the operation
(30_encoding.md R76). -/

namespace Sys2Proof

/-- A numeric operand fits the byte the host format gives it. -/
def fitsByte (v : Nat) : Bool := decide (v < 256)

/-- The instruction can be written in the host format or as a command word. -/
def Instr.wellFormed : Instr → Bool
  | .peccomp _ => true
  | .pecverify _ _ => true
  | .configure mode dcp ch chg => fitsByte mode && fitsByte dcp && fitsByte ch && fitsByte chg
  | .rdcv g n => fitsByte g && fitsByte n
  | .rdaux g n => fitsByte g && fitsByte n
  | .wrcfg n blocks => fitsByte n && decide (blocks.length = n)
  | .rdcfg n => fitsByte n
  | .samplev n _ => fitsByte n
  | .sampleaux n _ => fitsByte n
  | .adcv => true
  | .adax => true
  | .clrcell => true
  | .clraux => true
  | .encAdcv _ _ _ => true
  | .encAdax _ _ => true
  | .encRdcva => true
  | .encRdcvb => true
  | .encRdcvc => true
  | .encRdcvd => true
  | .encRdauxa => true
  | .encRdauxb => true
  | .encRdcfg => true
  | .encWrcfg => true
  | .encClrcell => true
  | .encClraux => true

end Sys2Proof
end

