-- ==== Sys2Proof/Decode.lean ====
section
/-! DEFINITION. Sys2Proof/Decode.lean: the decoder of the host format (30_encoding.md R74; the operand bytes
after the selector are log 13) and of the command words (30_encoding.md R66 to R68), and the encoder.

A host request is one message: the selector byte HOP, then the operands, one byte for each numeric
operand, each byte sequence as marked bytes (0x01 before every byte, 0x00 at the end), 16-bit values
high byte first, the 17-bit retry bound (R72) as three bytes high byte first, the blocks of WRCFG as
6·n bytes. -/

namespace Sys2Proof

/-- Why bytes are no instruction. -/
inductive DecodeError where
  /-- A request message with no selector. -/
  | emptyMessage
  /-- A selector outside 0x00..0x0C (30_encoding.md R76). -/
  | undefinedHop (hop : Byte)
  /-- The message ends inside an operand. -/
  | truncated
  /-- A mark of a byte sequence that is neither 0x00 nor 0x01. -/
  | badSequenceMark (mark : Byte)
  /-- Bits above the 17 of a retry bound are not zero. -/
  | badRetryPadding (top : Byte)
  /-- Bytes after the last operand. -/
  | trailingBytes
  /-- A 16-bit word that is none of the words of 30_encoding.md R66. -/
  | notACommandWord (w : Code)
deriving DecidableEq, Repr

/-- The 16-bit value with the two bytes given, the first the more significant (20_memory.md R44, R45). -/
def wordOfBytes (hi lo : Byte) : Code := hi ++ lo

/-- The more significant byte of a 16-bit value, `v[15:8]`. -/
def highByte (v : Code) : Byte := v.extractLsb' 8 8

/-- The less significant byte of a 16-bit value, `v[7:0]`. -/
def lowByte (v : Code) : Byte := v.extractLsb' 0 8

/-- Read one numeric operand. -/
def takeByte : List Byte → Except DecodeError (Nat × List Byte)
  | [] => .error .truncated
  | b :: rest => .ok (b.toNat, rest)

/-- Read one byte sequence: marked bytes up to the end mark. -/
def takeSeq : List Byte → Except DecodeError (List Byte × List Byte)
  | [] => .error .truncated
  | [m] => if m = 0 then .ok ([], []) else .error .truncated
  | m :: b :: rest =>
    if m = 0 then .ok ([], b :: rest)
    else if m = 1 then
      match takeSeq rest with
      | .ok (bs, rest') => .ok (b :: bs, rest')
      | .error e => .error e
    else .error (.badSequenceMark m)

/-- Read a 16-bit operand, high byte first. -/
def takeWord : List Byte → Except DecodeError (Code × List Byte)
  | hi :: lo :: rest => .ok (wordOfBytes hi lo, rest)
  | _ => .error .truncated

/-- Read a retry bound (30_encoding.md R72): bit 16 set means UNBOUNDED, "bits 15..0 ignored". -/
def takeRetry : List Byte → Except DecodeError (MaxRetry × List Byte)
  | top :: hi :: lo :: rest =>
    if top = 0 then .ok (.count (wordOfBytes hi lo), rest)
    else if top = 1 then .ok (.unbounded, rest)
    else .error (.badRetryPadding top)
  | _ => .error .truncated

/-- Read `n` blocks of 6 bytes. -/
def takeBlocks : Nat → List Byte → Except DecodeError (List (Vector Byte 6) × List Byte)
  | 0, bs => .ok ([], bs)
  | n + 1, b0 :: b1 :: b2 :: b3 :: b4 :: b5 :: rest =>
    match takeBlocks n rest with
    | .ok (blks, rest') => .ok (#v[b0, b1, b2, b3, b4, b5] :: blks, rest')
    | .error e => .error e
  | _ + 1, _ => .error .truncated

/-- The operands of the selector `hop`, and the bytes after them (30_encoding.md R74). -/
def decodeOperands (hop : Byte) (bs : List Byte) : Except DecodeError (Instr × List Byte) :=
  if hop = 0x00 then do
    let (bytes, r) ← takeSeq bs
    pure (.peccomp bytes, r)
  else if hop = 0x01 then do
    let (bytes, r) ← takeSeq bs
    let (expected, r) ← takeWord r
    pure (.pecverify bytes expected, r)
  else if hop = 0x02 then do
    let (mode, r) ← takeByte bs
    let (dcp, r) ← takeByte r
    let (ch, r) ← takeByte r
    let (chg, r) ← takeByte r
    pure (.configure mode dcp ch chg, r)
  else if hop = 0x03 then do
    let (g, r) ← takeByte bs
    let (n, r) ← takeByte r
    pure (.rdcv g n, r)
  else if hop = 0x04 then do
    let (g, r) ← takeByte bs
    let (n, r) ← takeByte r
    pure (.rdaux g n, r)
  else if hop = 0x05 then do
    let (n, r) ← takeByte bs
    let (blocks, r) ← takeBlocks n r
    pure (.wrcfg n blocks, r)
  else if hop = 0x06 then do
    let (n, r) ← takeByte bs
    pure (.rdcfg n, r)
  else if hop = 0x07 then do
    let (n, r) ← takeByte bs
    let (m, r) ← takeRetry r
    pure (.samplev n m, r)
  else if hop = 0x08 then do
    let (n, r) ← takeByte bs
    let (m, r) ← takeRetry r
    pure (.sampleaux n m, r)
  else if hop = 0x09 then pure (.adcv, bs)
  else if hop = 0x0A then pure (.adax, bs)
  else if hop = 0x0B then pure (.clrcell, bs)
  else if hop = 0x0C then pure (.clraux, bs)
  else .error (.undefinedHop hop)

/-- Read one request from the front of some bytes, and the bytes after it. -/
def decodeRequest : List Byte → Except DecodeError (Instr × List Byte)
  | [] => .error .emptyMessage
  | hop :: bs => decodeOperands hop bs

/-- Decode a request message: one request and nothing after it. -/
def decodeHost (msg : List Byte) : Except DecodeError Instr :=
  match decodeRequest msg with
  | .ok (i, []) => .ok i
  | .ok (_, _ :: _) => .error .trailingBytes
  | .error e => .error e

/-- The fixed bits of an ADCV word, `0x0260` under mask `0xFE68` (30_encoding.md R67). -/
def isAdcvWord (w : Code) : Bool := w &&& 0xFE68 == 0x0260

/-- The fixed bits of an ADAX word, `0x0460` under mask `0xFE78` (30_encoding.md R68). -/
def isAdaxWord (w : Code) : Bool := w &&& 0xFE78 == 0x0460

/-- Decode a command word: the encoder that produces it and the fields it was produced from
(30_encoding.md R66 to R68). -/
def decodeWord (w : Code) : Except DecodeError Instr :=
  if isAdcvWord w then .ok (.encAdcv (w.extractLsb' 7 2) (w.extractLsb' 4 1) (w.extractLsb' 0 3))
  else if isAdaxWord w then .ok (.encAdax (w.extractLsb' 7 2) (w.extractLsb' 0 3))
  else if w = 0x0004 then .ok .encRdcva
  else if w = 0x0006 then .ok .encRdcvb
  else if w = 0x0008 then .ok .encRdcvc
  else if w = 0x000A then .ok .encRdcvd
  else if w = 0x000C then .ok .encRdauxa
  else if w = 0x000E then .ok .encRdauxb
  else if w = 0x0002 then .ok .encRdcfg
  else if w = 0x0001 then .ok .encWrcfg
  else if w = 0x0711 then .ok .encClrcell
  else if w = 0x0712 then .ok .encClraux
  else .error (.notACommandWord w)

/-- Decode the two opcode bytes of a command word, high byte first (20_memory.md R45). -/
def decodeWire : List Byte → Except DecodeError Instr
  | [hi, lo] => decodeWord (wordOfBytes hi lo)
  | [] => .error .emptyMessage
  | [_] => .error .truncated
  | _ :: _ :: _ :: _ => .error .trailingBytes

/-- Decode the bytes presented at a port. Total: every byte list is one instruction or is rejected by
name. -/
def decode : Port → List Byte → Except DecodeError Instr
  | .host, bs => decodeHost bs
  | .wire, bs => decodeWire bs

/-- Write a byte sequence: each byte after the mark 0x01, then the end mark 0x00. -/
def putSeq : List Byte → List Byte
  | [] => [0x00]
  | b :: bs => 0x01 :: b :: putSeq bs

/-- Write a 16-bit value, high byte first. -/
def putWord (v : Code) : List Byte := [highByte v, lowByte v]

/-- Write a retry bound as 17 bits in three bytes, high byte first (30_encoding.md R72). -/
def putRetry : MaxRetry → List Byte
  | .unbounded => [0x01, 0x00, 0x00]
  | .count m => 0x00 :: putWord m

/-- Write a numeric operand. -/
def putByte (v : Nat) : Byte := BitVec.ofNat 8 v

/-- The ADCV word of the fields given, at the default `OPC_ADCV` (30_encoding.md R67). -/
def adcvWord (md : BitVec 2) (dcp : BitVec 1) (ch : BitVec 3) : Code :=
  0x0260 ||| (md.setWidth 16 <<< 7) ||| (dcp.setWidth 16 <<< 4) ||| ch.setWidth 16

/-- The ADAX word of the fields given, at the default `OPC_ADAX` (30_encoding.md R68). -/
def adaxWord (md : BitVec 2) (chg : BitVec 3) : Code :=
  0x0460 ||| (md.setWidth 16 <<< 7) ||| chg.setWidth 16

/-- The bytes of an instruction at its port: the request message of a host operation, the two opcode
bytes of a command word. -/
def encode : Instr → List Byte
  | .peccomp bytes => 0x00 :: putSeq bytes
  | .pecverify bytes expected => 0x01 :: (putSeq bytes ++ putWord expected)
  | .configure mode dcp ch chg => [0x02, putByte mode, putByte dcp, putByte ch, putByte chg]
  | .rdcv g n => [0x03, putByte g, putByte n]
  | .rdaux g n => [0x04, putByte g, putByte n]
  | .wrcfg n blocks => 0x05 :: putByte n :: blocks.flatMap (fun b => b.toList)
  | .rdcfg n => [0x06, putByte n]
  | .samplev n m => 0x07 :: putByte n :: putRetry m
  | .sampleaux n m => 0x08 :: putByte n :: putRetry m
  | .adcv => [0x09]
  | .adax => [0x0A]
  | .clrcell => [0x0B]
  | .clraux => [0x0C]
  | .encAdcv md dcp ch => putWord (adcvWord md dcp ch)
  | .encAdax md chg => putWord (adaxWord md chg)
  | .encRdcva => putWord 0x0004
  | .encRdcvb => putWord 0x0006
  | .encRdcvc => putWord 0x0008
  | .encRdcvd => putWord 0x000A
  | .encRdauxa => putWord 0x000C
  | .encRdauxb => putWord 0x000E
  | .encRdcfg => putWord 0x0002
  | .encWrcfg => putWord 0x0001
  | .encClrcell => putWord 0x0711
  | .encClraux => putWord 0x0712

/-- A host request whose selector is `w` and whose operand bytes are zero: zeros enough for the longest
all-zero operands. -/
def zeroOperandRequest (w : Nat) : List Byte := BitVec.ofNat 8 w :: List.replicate 8 0

/-- The two opcode bytes of the command word `w`. -/
def tableCommandBytes (w : Nat) : List Byte := putWord (BitVec.ofNat 16 w)

/-- The instruction the decoder reads from a word of spec/opcode_table.json: rows of up to 8 bits are host
selectors with zero operands, wider rows are command words. -/
def decodeTableWord (nbits w : Nat) : Option Instr :=
  if nbits ≤ 8 then
    match decodeRequest (zeroOperandRequest w) with
    | .ok (i, _) => some i
    | .error _ => none
  else
    match decodeWire (tableCommandBytes w) with
    | .ok i => some i
    | .error _ => none

/-- The bytes of the request that `zeroOperandRequest w` begins with: the selector and its zero operands,
without the zeros after them; the selector alone where it is undefined. -/
def tableRequest (w : Nat) : List Byte :=
  match decodeRequest (zeroOperandRequest w) with
  | .ok (_, rest) => (zeroOperandRequest w).take ((zeroOperandRequest w).length - rest.length)
  | .error _ => [BitVec.ofNat 8 w]

end Sys2Proof
end

