-- ==== Sys2Proof/Machine/State.lean ====
section
/-! DEFINITION. Sys2Proof/Machine/State.lean: the state of PECF (10_state.md R10), the two ports it works
through, the parameters, and the state after reset (10_state.md R27, 70_reset_and_hazards.md R220). -/

namespace Sys2Proof.Machine

/-- ORCH (10_state.md R22). -/
inductive Orch where
  | start | read | done | fail
deriving DecidableEq, Repr

/-- The status ST of a response (60_exceptions.md R191). -/
inductive Status where
  /-- ST_OK, code 0. -/
  | ok
  /-- ST_PEC_ERROR, code 1. -/
  | pecError
  /-- ST_CONFIG_ERROR, code 2. -/
  | configError
  /-- ST_RETRY_EXHAUSTED, code 3. -/
  | retryExhausted
deriving DecidableEq, Repr

/-- The payload of a response (30_encoding.md R74, R75). -/
inductive Payload where
  /-- No payload: the operation has none, or the status is an error that carries none. -/
  | absent
  /-- PECCOMP: the 16-bit code. -/
  | code (c : Code)
  /-- PECVERIFY: the match bit. -/
  | matched (b : Bool)
  /-- RDCV, RDAUX, SAMPLEAUX: raw codes, device first, then channel (42_register_access.md R147). -/
  | codes (cs : List Code)
  /-- RDCFG: the 8 bytes of each device. -/
  | blocks (bs : List (List Byte))
  /-- SAMPLEV: microvolts in 32 bits (43_orchestrator.md R171, R174). -/
  | volts (vs : List (BitVec 32))
deriving DecidableEq, Repr

/-- What the host gets back from one operation (30_encoding.md R75). -/
structure Response where
  st : Status
  payload : Payload
deriving DecidableEq, Repr

/-- A transport event of the bus trace (20_memory.md R50). -/
inductive BusEvent where
  | wake (kind : WakeKind)
  | csAssert
  | xfer (tx rx : List Byte)
  | csDeassert
deriving DecidableEq, Repr

/-- Which of the two measurement result arrays a read fills (42_register_access.md R144). -/
inductive Bank where
  | cell
  | aux
deriving DecidableEq, Repr

/-- A SAMPLEV or SAMPLEAUX with its operands (43_orchestrator.md R171, R172). -/
structure Sample where
  bank : Bank
  n : Nat
  maxRetry : MaxRetry
deriving DecidableEq, Repr

/-- The whole state of PECF (10_state.md R10), but for the constant TABLE, which is `Params.table`. -/
structure Regs where
  /-- REM, the 16-bit remainder (R12). -/
  rem : BitVec 16
  /-- MD, the conversion mode (R13). -/
  md : BitVec 2
  /-- DCP, the discharge permit (R14). -/
  dcp : BitVec 1
  /-- CH, the cell channel selector (R15). -/
  ch : BitVec 3
  /-- CHG, the auxiliary channel selector (R16). -/
  chg : BitVec 3
  /-- CFG_VALID (R17). -/
  cfgValid : Bool
  /-- PEC_ERR, the only flag (R18). -/
  pecErr : Bool
  /-- CELL[d][c] (R19). -/
  cell : Vector (Vector Code 12) 16
  /-- AUX[d][c] (R20). -/
  aux : Vector (Vector Code 6) 16
  /-- CFGRX[d][j] (R21). -/
  cfgrx : Vector (Vector Byte 8) 16
  /-- ORCH (R22). -/
  orch : Orch
  /-- RETRIES (R23). -/
  retries : BitVec 16
  /-- TXBUF (R24). -/
  txbuf : Vector Byte 132
  /-- TXLEN (R24). -/
  txlen : BitVec 8
  /-- RXBUF (R25). -/
  rxbuf : Vector Byte 128
  /-- RXLEN (R25). -/
  rxlen : BitVec 8
deriving DecidableEq, Repr

/-- The host port (30_encoding.md R74, R75). Fields of the model, not state of PECF. -/
structure HostPort where
  /-- The request messages the host will present, oldest first (log 15). -/
  requests : List (List Byte)
  /-- The encoder whose internal call runs next, if one was placed (log 16). -/
  encSel : Option WireCmd
  /-- The sample operation that is in its READ state, if one is (log 19). -/
  active : Option Sample
  /-- The responses delivered since reset, oldest first (log 21). -/
  responses : List Response
  /-- The frame the last directly run encoder returned (log 18). -/
  encOut : List Byte
deriving DecidableEq, Repr

/-- What will cut a run short: an adapter that stops, a reset. Each counts moments (log 11, log 12). -/
structure Deadlines where
  hangIn : Option Nat
  resetIn : Option Nat
deriving DecidableEq, Repr

/-- The transport port (20_memory.md R48) and what the environment will do at it. Fields of the model,
but for the chip-select line, whose reset value 10_state.md R27 gives. -/
structure BusPort where
  /-- Chip-select asserted: a transaction is open. -/
  cs : Bool
  /-- The bus trace (20_memory.md R50). -/
  trace : List BusEvent
  /-- The bytes the environment answers next (20_memory.md R49, log 10). -/
  link : List Byte
  /-- How many free bytes were drawn after `link` ran out (log 10). -/
  draws : Nat
  /-- After how many more moments of its `Wake` and `Exchange` calls the adapter stops for good; none: every
  call returns (60_exceptions.md R194, log 11). -/
  hangIn : Option Nat
  /-- After how many more moments the host resets the system; none: it does not (70_reset_and_hazards.md R221,
  log 12). -/
  resetIn : Option Nat
  /-- The two deadlines of each run after a reset, the next run's first; past its end, none (log 25). -/
  script : List Deadlines
deriving DecidableEq, Repr

/-- The observable record of a run that ended inside or between operations: its bus trace (20_memory.md R50),
"possibly after `CsAssert` with no `CsDeassert`, possibly with part of `tx` sent" (70_reset_and_hazards.md R221),
and the responses it delivered. -/
structure EndedRun where
  /-- The whole transport events, oldest first. -/
  trace : List BusEvent
  /-- The bytes sent of an `Exchange` that had begun and did not return. -/
  sent : List Byte
  /-- The bytes that had arrived in it. -/
  received : List Byte
  /-- The responses delivered, oldest first; the cut operation has none here. -/
  responses : List Response
deriving DecidableEq, Repr

/-- The machine: PECF's own state, its two ports, the record of earlier runs, and the parameters (arguments of
the model, 10_state.md R26, which no step writes; log 1). -/
structure State where
  regs : Regs
  host : HostPort
  bus : BusPort
  /-- The runs that a reset ended, oldest first (70_reset_and_hazards.md R221). A record of the model
  (20_memory.md R50), which no operation reads (log 21). -/
  past : List EndedRun
  par : Params
deriving DecidableEq, Repr

/-- The reasons a step can stop. -/
inductive Fault where
  /-- A `Wake` or `Exchange` never returned and no reset is coming: the operation never completes
  (60_exceptions.md R194; 93_implementation_defined.md U11 "stuck"). It holds the run as it hangs, its bus
  trace cut at the call that does not return. Raised by `step`, through `settle`, only where
  `BusPort.hangIn` says so. Safe: a claim that an operation ends has to assume that the adapter returns. -/
  | transportHang (run : EndedRun)
deriving DecidableEq, Repr

/-- The reasons an instruction has no meaning. -/
inductive Refusal where
  /-- The instruction has no meaning yet; raised by `exec`'s arm alone. Safe. No arm raises it. -/
  | notModelled (mnemonic : String)
deriving DecidableEq, Repr

/-- The registers after reset: CFG_VALID = 0 and PEC_ERR = 0 (10_state.md R27). The spec gives every other
register no value; the model names zero, and START for ORCH. DESIGN CHOICE (log 9); unsafe. -/
def Regs.reset : Regs where
  rem := 0
  md := 0
  dcp := 0
  ch := 0
  chg := 0
  cfgValid := false
  pecErr := false
  cell := Vector.replicate 16 (Vector.replicate 12 0)
  aux := Vector.replicate 16 (Vector.replicate 6 0)
  cfgrx := Vector.replicate 16 (Vector.replicate 8 0)
  orch := .start
  retries := 0
  txbuf := Vector.replicate 132 0
  txlen := 0
  rxbuf := Vector.replicate 128 0
  rxlen := 0

/-- The host port after reset: PECF is idle and no request has been presented (70_reset_and_hazards.md
R220). -/
def HostPort.reset : HostPort where
  requests := []
  encSel := none
  active := none
  responses := []
  encOut := []

/-- The transport port after reset: "no transaction open; chip-select deasserted", "bus trace: restarts
empty" (70_reset_and_hazards.md R220). -/
def BusPort.reset : BusPort where
  cs := false
  trace := []
  link := []
  draws := 0
  hangIn := none
  resetIn := none
  script := []

/-- The machine right after reset (10_state.md R27, 70_reset_and_hazards.md R220), with the parameters at
the spec's defaults. -/
def State.reset : State where
  regs := Regs.reset
  host := HostPort.reset
  bus := BusPort.reset
  past := []
  par := Config.params

end Sys2Proof.Machine
end

