-- ==== Sys2Proof/Machine/Ops.lean ====
section
/-! DEFINITION. Sys2Proof/Machine/Ops.lean: the named operations over registers, buffers and ports: the
checksum function, buffer accesses, the transport primitives and one transaction, the delivery of a
response, the two exceptions, moments, reset, and what a hung adapter or a reset makes of an operation. -/

namespace Sys2Proof.Machine

/-! ### Register writes -/

/-- `REM <- v`. -/
def State.setRem (v : BitVec 16) (s : State) : State := { s with regs.rem := v }

/-- `PEC_ERR <- v`. -/
def State.setPecErr (v : Bool) (s : State) : State := { s with regs.pecErr := v }

/-- `ORCH <- v` (10_state.md R22). -/
def State.setOrch (v : Orch) (s : State) : State := { s with regs.orch := v }

/-- `RETRIES <- v` (10_state.md R23). -/
def State.setRetries (v : BitVec 16) (s : State) : State := { s with regs.retries := v }

/-- `MD <- md; DCP <- dcp; CH <- ch; CHG <- chg; CFG_VALID <- 1`, together (41_command_encoder.md R110). -/
def State.setConfig (md : BitVec 2) (dcp : BitVec 1) (ch chg : BitVec 3) (s : State) : State :=
  { s with regs.md := md, regs.dcp := dcp, regs.ch := ch, regs.chg := chg, regs.cfgValid := true }

/-- Write CELL. -/
def State.setCell (v : Vector (Vector Code 12) 16) (s : State) : State := { s with regs.cell := v }

/-- Write AUX. -/
def State.setAux (v : Vector (Vector Code 6) 16) (s : State) : State := { s with regs.aux := v }

/-- Write CFGRX. -/
def State.setCfgrx (v : Vector (Vector Byte 8) 16) (s : State) : State := { s with regs.cfgrx := v }

/-- Write TXBUF. -/
def State.setTxbuf (v : Vector Byte 132) (s : State) : State := { s with regs.txbuf := v }

/-- `TXLEN <- v`. -/
def State.setTxlen (v : BitVec 8) (s : State) : State := { s with regs.txlen := v }

/-- Write RXBUF and RXLEN. -/
def State.setRx (buf : Vector Byte 128) (len : BitVec 8) (s : State) : State :=
  { s with regs.rxbuf := buf, regs.rxlen := len }

/-! ### Port fields -/

/-- Append an event to the bus trace (20_memory.md R50). -/
def State.log (e : BusEvent) (s : State) : State := { s with bus.trace := s.bus.trace ++ [e] }

/-- Drive the chip-select line. -/
def State.setCs (v : Bool) (s : State) : State := { s with bus.cs := v }

/-- The environment has answered `k` bytes: they leave `link`, and those beyond it were free draws. -/
def State.consumeLink (k : Nat) (s : State) : State :=
  { s with bus.link := s.bus.link.drop k, bus.draws := s.bus.draws + (k - s.bus.link.length) }

/-- Write the environment's two deadlines. -/
def State.setDeadlines (hangIn resetIn : Option Nat) (s : State) : State :=
  { s with bus.hangIn := hangIn, bus.resetIn := resetIn }

/-- Note which sample operation is still in READ. -/
def State.setActive (v : Option Sample) (s : State) : State := { s with host.active := v }

/-- Deliver a response to the host (30_encoding.md R75). -/
def State.respond (st : Status) (p : Payload) (s : State) : State :=
  { s with host.responses := s.host.responses ++ [⟨st, p⟩] }

/-- Hand the frame an encoder returned to its caller (41_command_encoder.md R111, log 18). -/
def State.setEncOut (f : List Byte) (s : State) : State := { s with host.encOut := f }

/-- Write the host port's inputs: the requests still to come and the encoder selected. -/
def State.setInputs (reqs : List (List Byte)) (sel : Option WireCmd) (s : State) : State :=
  { s with host.requests := reqs, host.encSel := sel }

/-! ### The checksum engine (40_checksum.md R93 to R95) -/

/-- SEED (00_scope.md R6). -/
def pecSeed : BitVec 16 := 0x0010

/-- `((REM >> 7) ^ byte) & 0xFF`, the table index (40_checksum.md R93, 20_memory.md R41). -/
def pecIndex (rem : BitVec 16) (b : Byte) : BitVec 8 := ((rem >>> 7) ^^^ b.setWidth 16).setWidth 8

/-- `TABLE[i]`. -/
def tableAt (table : Vector (BitVec 16) 256) (i : BitVec 8) : BitVec 16 := table[i.toNat]'i.isLt

/-- `REM <- trunc_16(REM << 8) ^ TABLE[idx]`, one table step (40_checksum.md R93). -/
def pecStep (table : Vector (BitVec 16) 256) (rem : BitVec 16) (b : Byte) : BitVec 16 :=
  (rem <<< 8) ^^^ tableAt table (pecIndex rem b)

/-- The remainder after a byte sequence, index 0 first (40_checksum.md R93). -/
def pecRem (table : Vector (BitVec 16) 256) (bytes : List Byte) : BitVec 16 :=
  bytes.foldl (pecStep table) pecSeed

/-- `pec15(s)`: the remainder doubled, 16 bits kept (40_checksum.md R93). -/
def pec15 (table : Vector (BitVec 16) 256) (bytes : List Byte) : Code := pecRem table bytes * 2

/-- `pecverify(s, e)`, on all 16 bits (40_checksum.md R95). -/
def pecverify (table : Vector (BitVec 16) 256) (bytes : List Byte) (expected : Code) : Bool :=
  pec15 table bytes == expected

/-- Run the checksum engine over some bytes: what it leaves in REM (10_state.md R12). -/
def State.runPec (bytes : List Byte) (s : State) : State := s.setRem (pecRem s.par.table bytes)

/-- The two PEC bytes of a byte sequence in transmit order, high byte first (20_memory.md R44). UNVERIFIED
(log 7). -/
def pecBytes (table : Vector (BitVec 16) 256) (bytes : List Byte) : List Byte :=
  [highByte (pec15 table bytes), lowByte (pec15 table bytes)]

/-- A byte sequence followed by its PEC: a configuration block of 6 bytes (30_encoding.md R64), a command
word of 2 (30_encoding.md R61). -/
def withPec (table : Vector (BitVec 16) 256) (bytes : List Byte) : List Byte :=
  bytes ++ pecBytes table bytes

/-! ### Buffers (20_memory.md R40) -/

/-- The byte at an index of a buffer. An index outside it, which PECF never forms (20_memory.md R42), reads
0 (log 23). -/
def bufByte {m : Nat} (buf : Vector Byte m) (i : Nat) : Byte := (buf[i]?).getD 0

/-- `MemRead(space, addr, n)` (00_scope.md section 4.2). -/
def memRead {m : Nat} (buf : Vector Byte m) (addr n : Nat) : List Byte :=
  (List.range n).map fun i => bufByte buf (addr + i)

/-- `MemWrite(space, addr, len, bytes)` (00_scope.md section 4.2). -/
def memWrite {m : Nat} (buf : Vector Byte m) (addr : Nat) (bytes : List Byte) : Vector Byte m :=
  Vector.ofFn fun i : Fin m => if addr ≤ i.val then (bytes[i.val - addr]?).getD buf[i] else buf[i]

/-- The element at a device and a slot of a result array; outside the array, which PECF never reads, 0
(log 23). -/
def slotAt {w r c : Nat} (a : Vector (Vector (BitVec w) c) r) (d k : Nat) : BitVec w :=
  if h : d < r ∧ k < c then (a[d]'h.1)[k]'h.2 else 0

/-- Write one slot of one device; outside the array, which PECF never writes, nothing (log 23). -/
def setSlot {w r c : Nat} (a : Vector (Vector (BitVec w) c) r) (d k : Nat) (v : BitVec w) :
    Vector (Vector (BitVec w) c) r :=
  if h : d < r then a.set d ((a[d]'h).setIfInBounds k v) h else a

/-- `ARR[d][c]` for the array of a bank. -/
def State.codeAt (b : Bank) (d c : Nat) (s : State) : Code :=
  match b with
  | .cell => slotAt s.regs.cell d c
  | .aux => slotAt s.regs.aux d c

/-- `ARR[d][c] <- v` for the array of a bank. -/
def State.setCode (b : Bank) (d c : Nat) (v : Code) (s : State) : State :=
  match b with
  | .cell => s.setCell (setSlot s.regs.cell d c v)
  | .aux => s.setAux (setSlot s.regs.aux d c v)

/-- `CFGRX[d][j] <- v`. -/
def State.setCfgrxByte (d j : Nat) (v : Byte) (s : State) : State := s.setCfgrx (setSlot s.regs.cfgrx d j v)

/-- `MemWrite(TXBUF, addr, len, bytes)`. -/
def State.writeTx (addr : Nat) (bytes : List Byte) (s : State) : State :=
  s.setTxbuf (memWrite s.regs.txbuf addr bytes)

/-- The bytes to transmit, `TXBUF[0..TXLEN-1]`. -/
def State.txBytes (s : State) : List Byte := memRead s.regs.txbuf 0 s.regs.txlen.toNat

/-! ### The transport primitives (00_scope.md section 4.3) and one transaction (42_register_access.md R140) -/

/-- The `i`-th byte the environment will answer from now on (20_memory.md R49): one of `link`, then free
draws. -/
def BusPort.byteAt (b : BusPort) (i : Nat) : Byte :=
  (b.link[i]?).getD (Config.chainByte (b.draws + (i - b.link.length)))

/-- The `k` bytes the environment answers next (20_memory.md R49). -/
def BusPort.answer (b : BusPort) (k : Nat) : List Byte := (List.range k).map b.byteAt

/-- `WAKE_POLICY(c)` (42_register_access.md R141). -/
def wakeKind (p : Params) (c : WireCmd) : WakeKind := p.wakePolicy[c.idx]

/-- `Wake(kind)`. -/
def State.wake (kind : WakeKind) (s : State) : State := s.log (.wake kind)

/-- `CsAssert()`. -/
def State.csAssert (s : State) : State := (s.setCs true).log .csAssert

/-- `Exchange(tx, k)`: `RXBUF[0..k-1] <- rx; RXLEN <- k` (20_memory.md R48, 10_state.md R25). -/
def State.exchange (tx : List Byte) (k : Nat) (s : State) : State :=
  (((s.setRx (memWrite s.regs.rxbuf 0 (s.bus.answer k)) (BitVec.ofNat 8 k)).consumeLink k).log
    (.xfer tx (s.bus.answer k)))

/-- `CsDeassert()`. -/
def State.csDeassert (s : State) : State := (s.setCs false).log .csDeassert

/-- `transact(TXBUF[0..TXLEN-1], k)` for the wire command `c` (42_register_access.md R140): one wake, then
one chip-select window around one exchange. -/
def transact (c : WireCmd) (k : Nat) (s : State) : State :=
  let s := s.wake (wakeKind s.par c)
  let s := s.csAssert
  let s := s.exchange s.txBytes k
  s.csDeassert

/-! ### Exceptions (60_exceptions.md R193, R195): "trap entry" is the delivery of a non-OK status (R197) -/

/-- `raise ConfigError`: ST_CONFIG_ERROR without payload, and nothing else changes (60_exceptions.md R193). -/
def raiseConfigError (s : State) : State := s.respond .configError .absent

/-- `raise RetryExhausted`: `ORCH <- FAIL`, ST_RETRY_EXHAUSTED without payload, and the operation ends
(60_exceptions.md R195). -/
def raiseRetryExhausted (s : State) : State :=
  ((s.setOrch .fail).setActive none).respond .retryExhausted .absent

/-! ### Time: moments, and a run cut short by a reset or by an adapter that stops

A moment is the least time the model tells apart (log 12): taking up an operation, one byte of an `Exchange` (a byte
is atomic, 20_memory.md R46), the return of an `Exchange`, any other transport event, and delivering the outcome. -/

/-- How many moments an event takes. -/
def BusEvent.moments : BusEvent → Nat
  | .wake _ => 1
  | .csAssert => 1
  | .xfer tx rx => tx.length + rx.length + 1
  | .csDeassert => 1

/-- How many of them PECF waits on the adapter for (60_exceptions.md R194: "`Exchange` and `Wake` are calls PECF
waits on"). -/
def BusEvent.waits : BusEvent → Nat
  | .wake kind => (BusEvent.wake kind).moments
  | .csAssert => 0
  | .xfer tx rx => (BusEvent.xfer tx rx).moments
  | .csDeassert => 0

/-- The moments of some events, by one of the two measures. -/
def totalOf (w : BusEvent → Nat) (evs : List BusEvent) : Nat := (evs.map w).sum

/-- What has happened of a sequence of events that was cut: the whole events, and the bytes sent and received of
an exchange that had begun. -/
structure Cut where
  done : List BusEvent
  sent : List Byte
  received : List Byte
deriving DecidableEq, Repr

/-- Nothing has happened yet. -/
def Cut.none : Cut := ⟨[], [], []⟩

/-- `k` moments into an event that did not end: all of `tx` goes out before the answer comes in
(20_memory.md R48). -/
def BusEvent.cutAfter (k : Nat) : BusEvent → Cut
  | .wake _ => Cut.none
  | .csAssert => Cut.none
  | .xfer tx rx => ⟨[], tx.take k, rx.take (k - tx.length)⟩
  | .csDeassert => Cut.none

/-- Some events cut after `k` moments of the measure `w`. -/
def cutAt (w : BusEvent → Nat) : Nat → List BusEvent → Cut
  | _, [] => Cut.none
  | k, e :: es =>
    if w e ≤ k then { cutAt w (k - w e) es with done := e :: (cutAt w (k - w e) es).done }
    else e.cutAfter k

/-- How many moments a cut lies after its beginning. -/
def Cut.elapsed (c : Cut) : Nat := totalOf BusEvent.moments c.done + c.sent.length + c.received.length

/-- How many bytes of the chain an event has used up. -/
def BusEvent.rxCount : BusEvent → Nat
  | .wake _ => 0
  | .csAssert => 0
  | .xfer _ rx => rx.length
  | .csDeassert => 0

/-- How many bytes of the chain a cut has used up. -/
def Cut.rxCount (c : Cut) : Nat := (c.done.map BusEvent.rxCount).sum + c.received.length

/-- The events the trace gained from `s` to `t`. -/
def newEvents (s t : State) : List BusEvent := t.bus.trace.drop s.bus.trace.length

/-- The adapter stops before some events are over. -/
def hangs (hangIn : Option Nat) (evs : List BusEvent) : Bool :=
  match hangIn with
  | none => false
  | some h => decide (h < totalOf BusEvent.waits evs)

/-- Where some events are cut by a reset `k` moments after their operation was taken up: there, or where the
adapter had stopped by then. -/
def resetCut (hangIn : Option Nat) (k : Nat) (evs : List BusEvent) : Cut :=
  match hangIn with
  | none => cutAt BusEvent.moments (k - 1) evs
  | some h =>
    if k - 1 < (cutAt BusEvent.waits h evs).elapsed then cutAt BusEvent.moments (k - 1) evs
    else cutAt BusEvent.waits h evs

/-- The record of the run that ends in state `s` with `c` of its operation in progress done. -/
def State.endedRun (c : Cut) (s : State) : EndedRun where
  trace := s.bus.trace ++ c.done
  sent := c.sent
  received := c.received
  responses := s.host.responses

/-- The transport port as a new run begins: as after reset, the chain's bytes going on, the deadlines those the
environment has for the run (log 25). -/
def BusPort.nextRun (b : BusPort) : BusPort :=
  match b.script with
  | [] => { BusPort.reset with link := b.link, draws := b.draws }
  | d :: ds =>
    { BusPort.reset with
      link := b.link, draws := b.draws, hangIn := d.hangIn, resetIn := d.resetIn, script := ds }

/-- The reset event on a running machine (70_reset_and_hazards.md R220, R221), `c` of its operation in progress
done: PECF and its ports are as after `State.reset` whatever it was doing, and the run so far is recorded; the
parameters, and what the host and the chain will do next, are not PECF's and stay (log 25). -/
def hostReset (c : Cut) (s : State) : State where
  regs := Regs.reset
  host := { HostPort.reset with requests := s.host.requests }
  bus := (s.consumeLink c.rxCount).bus.nextRun
  past := s.past ++ [s.endedRun c]
  par := s.par

/-- The outcome of an operation that leads from `s` to `t` when every adapter call returns and no reset falls.
A reset that falls before its outcome is delivered, or that ends its hang, leaves the reset state
(70_reset_and_hazards.md R221); a hang that no reset ends leaves no next state (60_exceptions.md R194); else
`t`, with both deadlines moved on. The operation takes one moment to be taken up, those of its events, and one
to deliver its outcome (log 11, log 12). -/
def settle (s t : State) : Host.Outcome State Fault Refusal :=
  let evs := newEvents s t
  let left := s.bus.hangIn.map fun h => h - totalOf BusEvent.waits evs
  match s.bus.resetIn with
  | some k =>
    if k < totalOf BusEvent.moments evs + 2 ∨ hangs s.bus.hangIn evs then
      .next (hostReset (resetCut s.bus.hangIn k evs) s)
    else .next (t.setDeadlines left (some (k - (totalOf BusEvent.moments evs + 2))))
  | none =>
    if hangs s.bus.hangIn evs then
      .fault (.transportHang (s.endedRun (cutAt BusEvent.waits (s.bus.hangIn.getD 0) evs)))
    else .next (t.setDeadlines left none)

/-- A moment passes while PECF is idle, and nothing else changes (log 15). -/
def State.passMoment (s : State) : State := s.setDeadlines s.bus.hangIn (s.bus.resetIn.map fun k => k - 1)

/-- `settle` on the outcome of an instruction. -/
def settleOutcome (s : State) (o : Host.Outcome State Fault Refusal) : Host.Outcome State Fault Refusal :=
  match o with
  | .next t => settle s t
  | .fault f => .fault f
  | .refused r => .refused r

end Sys2Proof.Machine
end

