-- ==== Sys2Proof/Machine/Operands.lean ====
section
/-! DEFINITION. Sys2Proof/Machine/Operands.lean: the operand forms of the host operations: which values are
legal (30_encoding.md R76, 60_exceptions.md R193), the groups a selector names (30_encoding.md R70), the
blocks of WRCFG, and the payloads read back from the result arrays. -/

namespace Sys2Proof.Machine

/-- MAX_DEV (00_scope.md R6). -/
def maxDev : Nat := 16

/-- A device count is legal: 1 ≤ n ≤ 16 (30_encoding.md R71). -/
def legalCount (n : Nat) : Bool := decide (1 ≤ n ∧ n ≤ maxDev)

/-- The number of register groups of a bank: 4 cell groups, 2 auxiliary groups (00_scope.md R6). -/
def Bank.groups : Bank → Nat
  | .cell => 4
  | .aux => 2

/-- The number of channels of a bank, 3 for each group (00_scope.md R6). -/
def Bank.channels (b : Bank) : Nat := 3 * b.groups

/-- A group selector is legal: 0 = ALL, or the number of a group of the bank (30_encoding.md R70). -/
def legalSelector (b : Bank) (g : Nat) : Bool := decide (g ≤ b.groups)

/-- The group indices a selector names, in the order they are read: all of them for ALL, else selector
minus 1 (30_encoding.md R70, R78). -/
def selectedGroups (b : Bank) (g : Nat) : List Nat :=
  if g = 0 then List.range b.groups else [g - 1]

/-- The channels of a register group: `3·gi + k` for k = 0, 1, 2 (10_state.md R19). -/
def groupChannels (gi : Nat) : List Nat := (List.range 3).map fun k => 3 * gi + k

/-- The channels a selector's payload carries, in order (42_register_access.md R145 to R147). -/
def selectedChannels (b : Bank) (g : Nat) : List Nat := (selectedGroups b g).flatMap groupChannels

/-- The wire command that reads a register group (41_command_encoder.md R114 to R119). -/
def readCommand (b : Bank) (gi : Nat) : WireCmd :=
  match b with
  | .cell => if gi = 0 then .rdcva else if gi = 1 then .rdcvb else if gi = 2 then .rdcvc else .rdcvd
  | .aux => if gi = 0 then .rdauxa else .rdauxb

/-- The wire command that starts a conversion of a bank (43_orchestrator.md R171, R172). -/
def startCommand : Bank → WireCmd
  | .cell => .adcv
  | .aux => .adax

/-- `mode` is the number of one of the three modes: {1, 2, 3} with the default numbers (30_encoding.md R69,
41_command_encoder.md R110). -/
def legalMode (p : Params) (mode : Nat) : Bool :=
  decide (mode = p.modeFast.toNat ∨ mode = p.modeNormal.toNat ∨ mode = p.modeFiltered.toNat)

/-- The operand check of CONFIGURE (41_command_encoder.md R110). -/
def legalConfig (p : Params) (mode dcp ch chg : Nat) : Bool :=
  legalMode p mode && decide (dcp ≤ 1 ∧ ch ≤ 7 ∧ chg ≤ 7)

/-- `MemRead(CFGTX, [d][0], 6)`: the configuration bytes of device `d` in the operand `blocks`
(42_register_access.md R150). -/
def cfgtxRead (blocks : List (Vector Byte 6)) (d : Nat) : List Byte :=
  ((blocks[d]?).getD (Vector.replicate 6 0)).toList

/-- The codes of some channels of devices 0..n-1, device first, then channel (42_register_access.md R147). -/
def codesPayload (b : Bank) (chans : List Nat) (n : Nat) (s : State) : List Code :=
  (List.range n).flatMap fun d => chans.map fun c => s.codeAt b d c

/-- `CFGRX[d][0..7]` for d in 0..n-1 (42_register_access.md R149). -/
def cfgrxPayload (n : Nat) (s : State) : List (List Byte) :=
  (List.range n).map fun d => (List.range 8).map fun j => slotAt s.regs.cfgrx d j

end Sys2Proof.Machine
end

