-- ==== Sys2Proof/Machine/Encoder.lean ====
section
/-! DEFINITION. Sys2Proof/Machine/Encoder.lean: CONFIGURE (41_command_encoder.md R110) and the twelve frame encoders
(41_command_encoder.md R111 to R123). -/

namespace Sys2Proof.Machine

/-- CONFIGURE (41_command_encoder.md R110): all four fields and CFG_VALID, or ConfigError and nothing. -/
def execConfigure (mode dcp ch chg : Nat) (s : State) : Host.Outcome State Fault Refusal :=
  if legalConfig s.par mode dcp ch chg then
    .next ((s.setConfig (BitVec.ofNat 2 mode) (BitVec.ofNat 1 dcp) (BitVec.ofNat 3 ch)
      (BitVec.ofNat 3 chg)).respond .ok .absent)
  else .next (raiseConfigError s)

/-- `OPC_*` of a wire command (30_encoding.md R66). -/
def opcode (p : Params) (c : WireCmd) : Code := p.opc[c.idx]

/-- The command word of a wire command: the fixed word, and for the two conversion commands the sticky
fields in their places (41_command_encoder.md R112, R113; 30_encoding.md R67, R68). -/
def commandWord (c : WireCmd) (s : State) : Code :=
  match c with
  | .adcv =>
    opcode s.par .adcv ||| (s.regs.md.setWidth 16 <<< 7) ||| (s.regs.dcp.setWidth 16 <<< 4) |||
      s.regs.ch.setWidth 16
  | .adax => opcode s.par .adax ||| (s.regs.md.setWidth 16 <<< 7) ||| s.regs.chg.setWidth 16
  | .rdcva => opcode s.par .rdcva
  | .rdcvb => opcode s.par .rdcvb
  | .rdcvc => opcode s.par .rdcvc
  | .rdcvd => opcode s.par .rdcvd
  | .rdauxa => opcode s.par .rdauxa
  | .rdauxb => opcode s.par .rdauxb
  | .rdcfg => opcode s.par .rdcfg
  | .wrcfg => opcode s.par .wrcfg
  | .clrcell => opcode s.par .clrcell
  | .clraux => opcode s.par .clraux

/-- The two opcode bytes of a command word, high byte first (20_memory.md R45). UNVERIFIED (log 8). -/
def opcodeBytes (w : Code) : List Byte := [highByte w, lowByte w]

/-- `frame(cmd)`: the two opcode bytes and their PEC (41_command_encoder.md R111). -/
def frame (table : Vector (BitVec 16) 256) (w : Code) : List Byte := withPec table (opcodeBytes w)

/-- An encoder run on its own: it returns `frame` of its command word and writes REM only
(41_command_encoder.md R111). -/
def runEncoder (c : WireCmd) (s : State) : State :=
  (s.runPec (opcodeBytes (commandWord c s))).setEncOut (frame s.par.table (commandWord c s))

/-- `TXBUF[0..3] <- enc(); TXLEN <- 4`, the first line of every bus operation (42_register_access.md R144). -/
def loadFrame (c : WireCmd) (s : State) : State :=
  ((s.runPec (opcodeBytes (commandWord c s))).writeTx 0 (frame s.par.table (commandWord c s))).setTxlen 4

/-- enc_adcv (41_command_encoder.md R112): no input from the caller; reads MD, DCP, CH (log 17). -/
def execEncAdcv (s : State) : Host.Outcome State Fault Refusal := .next (runEncoder .adcv s)

/-- enc_adax (41_command_encoder.md R113): no input from the caller; reads MD, CHG (log 17). -/
def execEncAdax (s : State) : Host.Outcome State Fault Refusal := .next (runEncoder .adax s)

/-- enc_rdcva (41_command_encoder.md R114). -/
def execEncRdcva (s : State) : Host.Outcome State Fault Refusal := .next (runEncoder .rdcva s)

/-- enc_rdcvb (41_command_encoder.md R115). -/
def execEncRdcvb (s : State) : Host.Outcome State Fault Refusal := .next (runEncoder .rdcvb s)

/-- enc_rdcvc (41_command_encoder.md R116). -/
def execEncRdcvc (s : State) : Host.Outcome State Fault Refusal := .next (runEncoder .rdcvc s)

/-- enc_rdcvd (41_command_encoder.md R117). -/
def execEncRdcvd (s : State) : Host.Outcome State Fault Refusal := .next (runEncoder .rdcvd s)

/-- enc_rdauxa (41_command_encoder.md R118). -/
def execEncRdauxa (s : State) : Host.Outcome State Fault Refusal := .next (runEncoder .rdauxa s)

/-- enc_rdauxb (41_command_encoder.md R119). -/
def execEncRdauxb (s : State) : Host.Outcome State Fault Refusal := .next (runEncoder .rdauxb s)

/-- enc_rdcfg (41_command_encoder.md R120). -/
def execEncRdcfg (s : State) : Host.Outcome State Fault Refusal := .next (runEncoder .rdcfg s)

/-- enc_wrcfg (41_command_encoder.md R121). -/
def execEncWrcfg (s : State) : Host.Outcome State Fault Refusal := .next (runEncoder .wrcfg s)

/-- enc_clrcell (41_command_encoder.md R122). -/
def execEncClrcell (s : State) : Host.Outcome State Fault Refusal := .next (runEncoder .clrcell s)

/-- enc_clraux (41_command_encoder.md R123). -/
def execEncClraux (s : State) : Host.Outcome State Fault Refusal := .next (runEncoder .clraux s)

end Sys2Proof.Machine
end

