-- ==== Sys2Proof/Machine/Flags.lean ====
section
/-! DEFINITION. Sys2Proof/Machine/Flags.lean: the one flag, PEC_ERR (10_state.md R18), and the status it gives a
read (60_exceptions.md R191). -/

namespace Sys2Proof.Machine

/-- The payload bytes of a block, `blk[0..5]` (30_encoding.md R63, R64). -/
def blockData (blk : List Byte) : List Byte := blk.take 6

/-- The received PEC of a block, `{blk[6], blk[7]}`, high byte first (20_memory.md R44). -/
def blockPec (blk : List Byte) : Code := wordOfBytes (blk.getD 6 0) (blk.getD 7 0)

/-- The block's checksum does not match (42_register_access.md R143). -/
def mismatch (table : Vector (BitVec 16) 256) (blk : List Byte) : Bool :=
  !pecverify table (blockData blk) (blockPec blk)

/-- `check(blk)`: a mismatch sets PEC_ERR, a match leaves it as it is (42_register_access.md R143). -/
def checkBlock (blk : List Byte) (s : State) : State :=
  (s.runPec (blockData blk)).setPecErr (s.regs.pecErr || mismatch s.par.table blk)

/-- The status of RDCV, RDAUX and RDCFG: ST_PEC_ERROR if PEC_ERR = 1, else ST_OK (60_exceptions.md R191). -/
def readStatus (s : State) : Status := if s.regs.pecErr then .pecError else .ok

/-- The 2-bit code of a status (60_exceptions.md R191). -/
def Status.code : Status → BitVec 2
  | .ok => 0
  | .pecError => 1
  | .configError => 2
  | .retryExhausted => 3

/-- `pec_ok` of RDCV, RDAUX, RDCFG and `ok` of SAMPLEV, SAMPLEAUX: ST = ST_OK (30_encoding.md R75). -/
def Response.ok (r : Response) : Bool := decide (r.st = .ok)

end Sys2Proof.Machine
end

