-- ==== Sys2Proof/Machine/Access.lean ====
section
/-! DEFINITION. Sys2Proof/Machine/Access.lean: daisy-chain register access (42_register_access.md): RDCV, RDAUX, WRCFG,
RDCFG, ADCV, ADAX, CLRCELL, CLRAUX. -/

namespace Sys2Proof.Machine

/-! ### Reading -/

/-- `codes(blk)[k] = {blk[2k+1], blk[2k]}`, little-endian (42_register_access.md R142, 20_memory.md R43). -/
def codeOf (blk : List Byte) (k : Nat) : Code := wordOfBytes (blk.getD (2 * k + 1) 0) (blk.getD (2 * k) 0)

/-- `MemRead(RXBUF, 8 * d, 8)`: block `d` of a response (20_memory.md R47, R57). -/
def State.rxBlock (d : Nat) (s : State) : List Byte := memRead s.regs.rxbuf (8 * d) 8

/-- `for k in 0..2: ARR[d][3 * gi + k] <- codes(blk)[k]` (42_register_access.md R144). -/
def storeCodes (b : Bank) (gi d : Nat) (blk : List Byte) (s : State) : State :=
  (List.range 3).foldl (fun s k => s.setCode b d (3 * gi + k) (codeOf blk k)) s

/-- One device's part of a group read: store its codes, then check its block (42_register_access.md R144). -/
def readDevice (b : Bank) (gi : Nat) (s : State) (d : Nat) : State :=
  checkBlock (s.rxBlock d) (storeCodes b gi d (s.rxBlock d) s)

/-- `read_one(enc, ARR, gi, n)` (42_register_access.md R144). -/
def readOne (b : Bank) (n : Nat) (s : State) (gi : Nat) : State :=
  (List.range n).foldl (readDevice b gi)
    (transact (readCommand b gi) (8 * n) (loadFrame (readCommand b gi) s))

/-- One read call: `PEC_ERR <- 0`, then `read_one` for each group in order (42_register_access.md R145, R146;
43_orchestrator.md R171). -/
def readGroups (b : Bank) (gis : List Nat) (n : Nat) (s : State) : State :=
  gis.foldl (readOne b n) (s.setPecErr false)

/-- What RDCV and RDAUX do once their operands are legal (42_register_access.md R145, R146). -/
def readCall (b : Bank) (g n : Nat) (s : State) : State :=
  let t := readGroups b (selectedGroups b g) n s
  t.respond (readStatus t) (.codes (codesPayload b (selectedChannels b g) n t))

/-- RDCV (42_register_access.md R145). -/
def execRdcv (g n : Nat) (s : State) : Host.Outcome State Fault Refusal :=
  if legalSelector .cell g && legalCount n then .next (readCall .cell g n s)
  else .next (raiseConfigError s)

/-- RDAUX (42_register_access.md R146). -/
def execRdaux (g n : Nat) (s : State) : Host.Outcome State Fault Refusal :=
  if legalSelector .aux g && legalCount n then .next (readCall .aux g n s)
  else .next (raiseConfigError s)

/-- `CFGRX[d][j] <- blk[j] for j in 0..7; check(blk)` for one device (42_register_access.md R149). -/
def readCfgDevice (s : State) (d : Nat) : State :=
  checkBlock (s.rxBlock d)
    ((List.range 8).foldl (fun t j => t.setCfgrxByte d j ((s.rxBlock d).getD j 0)) s)

/-- What RDCFG does once its operand is legal (42_register_access.md R149). -/
def readCfgCall (n : Nat) (s : State) : State :=
  let t := (List.range n).foldl readCfgDevice
    (transact .rdcfg (8 * n) (loadFrame .rdcfg (s.setPecErr false)))
  t.respond (readStatus t) (.blocks (cfgrxPayload n t))

/-- RDCFG (42_register_access.md R149). -/
def execRdcfg (n : Nat) (s : State) : Host.Outcome State Fault Refusal :=
  if legalCount n then .next (readCfgCall n s) else .next (raiseConfigError s)

/-! ### Writing -/

/-- Position `i` of the write burst: the block of device `n - 1 - i` and its PEC at `TXBUF[4 + 8i ..]`
(42_register_access.md R150, 20_memory.md R57). -/
def putBlock (blocks : List (Vector Byte 6)) (n : Nat) (s : State) (i : Nat) : State :=
  (s.runPec (cfgtxRead blocks (n - 1 - i))).writeTx (4 + 8 * i)
    (withPec s.par.table (cfgtxRead blocks (n - 1 - i)))

/-- The whole write burst in TXBUF, last device first, and its length (42_register_access.md R150). -/
def loadBurst (n : Nat) (blocks : List (Vector Byte 6)) (s : State) : State :=
  ((List.range n).foldl (putBlock blocks n) (loadFrame .wrcfg s)).setTxlen (BitVec.ofNat 8 (4 + 8 * n))

/-- WRCFG (42_register_access.md R150): one transaction, nothing read back, ST_OK. -/
def execWrcfg (n : Nat) (blocks : List (Vector Byte 6)) (s : State) :
    Host.Outcome State Fault Refusal :=
  if legalCount n then .next ((transact .wrcfg 0 (loadBurst n blocks s)).respond .ok .absent)
  else .next (raiseConfigError s)

/-! ### Command-only operations -/

/-- `TXBUF[0..3] <- enc(); TXLEN <- 4; transact(TXBUF[0..3], 0)` (42_register_access.md R151 to R154). -/
def sendCommand (c : WireCmd) (s : State) : State := transact c 0 (loadFrame c s)

/-- ADCV (42_register_access.md R151). -/
def execAdcv (s : State) : Host.Outcome State Fault Refusal :=
  if s.regs.cfgValid then .next ((sendCommand .adcv s).respond .ok .absent)
  else .next (raiseConfigError s)

/-- ADAX (42_register_access.md R152). -/
def execAdax (s : State) : Host.Outcome State Fault Refusal :=
  if s.regs.cfgValid then .next ((sendCommand .adax s).respond .ok .absent)
  else .next (raiseConfigError s)

/-- CLRCELL (42_register_access.md R153): needs no configuration; CELL is not touched. -/
def execClrcell (s : State) : Host.Outcome State Fault Refusal :=
  .next ((sendCommand .clrcell s).respond .ok .absent)

/-- CLRAUX (42_register_access.md R154): needs no configuration; AUX is not touched. -/
def execClraux (s : State) : Host.Outcome State Fault Refusal :=
  .next ((sendCommand .clraux s).respond .ok .absent)

end Sys2Proof.Machine
end

