-- ==== Sys2Proof/Machine/Checksum.lean ====
section
/-! DEFINITION. Sys2Proof/Machine/Checksum.lean: the host operations of the checksum engine (40_checksum.md R101,
R102). -/

namespace Sys2Proof.Machine

/-- PECCOMP (40_checksum.md R101): `code <- pec15(bytes)`. Writes REM only; no bus event. -/
def execPeccomp (bytes : List Byte) (s : State) : Host.Outcome State Fault Refusal :=
  .next ((s.runPec bytes).respond .ok (.code (pec15 s.par.table bytes)))

/-- PECVERIFY (40_checksum.md R102): `match <- pecverify(bytes, expected)`; ST_OK either way. -/
def execPecverify (bytes : List Byte) (expected : Code) (s : State) : Host.Outcome State Fault Refusal :=
  .next ((s.runPec bytes).respond .ok (.matched (pecverify s.par.table bytes expected)))

end Sys2Proof.Machine
end

