-- ==== Sys2Proof/Machine/Orchestrator.lean ====
section
/-! DEFINITION. Sys2Proof/Machine/Orchestrator.lean: the conversion orchestrator (43_orchestrator.md): the state machine
over ORCH, SAMPLEV and SAMPLEAUX. One step runs START and the first attempt; each later attempt is a step of
its own (log 19). -/

namespace Sys2Proof.Machine

/-- `scale(code) = code * 100` microvolts (43_orchestrator.md R174). -/
def scale (code : Code) : Nat := code.toNat * 100

/-- `clamp(v) = 0 if v < NOISE_FLOOR_UV else v` (43_orchestrator.md R175). -/
def clamp (p : Params) (v : Nat) : Nat := if v < p.noiseFloorUv then 0 else v

/-- A voltage of SAMPLEV's payload, in 32 bits (43_orchestrator.md R171). -/
def voltage (p : Params) (code : Code) : BitVec 32 := BitVec.ofNat 32 (clamp p (scale code))

/-- The payload of the DONE step: scaled and clamped voltages, or raw auxiliary codes (43_orchestrator.md
R171, R172). -/
def samplePayload (a : Sample) (s : State) : Payload :=
  match a.bank with
  | .cell => .volts ((codesPayload .cell (List.range Bank.cell.channels) a.n s).map (voltage s.par))
  | .aux => .codes (codesPayload .aux (List.range Bank.aux.channels) a.n s)

/-- Operation entry and START: `ORCH <- START; RETRIES <- 0`, one command-only transaction, `ORCH <- READ`
(43_orchestrator.md R170, R171). -/
def startSample (b : Bank) (s : State) : State :=
  (sendCommand (startCommand b) ((s.setOrch .start).setRetries 0)).setOrch .read

/-- READ to DONE: respond ST_OK with the payload (43_orchestrator.md R170). -/
def sampleDone (a : Sample) (s : State) : State :=
  ((s.setOrch .done).setActive none).respond .ok (samplePayload a s)

/-- READ after a mismatch: stay in READ and count the retry, or FAIL when the count is used up
(43_orchestrator.md R170, R173). -/
def sampleRetry (a : Sample) (s : State) : State :=
  match a.maxRetry with
  | .unbounded => s.setActive (some a)
  | .count m =>
    if m ≤ s.regs.retries then raiseRetryExhausted s
    else (s.setRetries (s.regs.retries + 1)).setActive (some a)

/-- One attempt: one pass through READ, every group of every device, then the retry test
(43_orchestrator.md R170, R173). -/
def attempt (a : Sample) (s : State) : State :=
  let t := readGroups a.bank (List.range a.bank.groups) a.n s
  if t.regs.pecErr then sampleRetry a t else sampleDone a t

/-- The operand and configuration check of the sample operations (43_orchestrator.md R171). -/
def legalSample (n : Nat) (s : State) : Bool := legalCount n && s.regs.cfgValid

/-- SAMPLEV (43_orchestrator.md R171): the check, START, and the first attempt. -/
def execSamplev (n : Nat) (maxRetry : MaxRetry) (s : State) : Host.Outcome State Fault Refusal :=
  if legalSample n s then .next (attempt ⟨.cell, n, maxRetry⟩ (startSample .cell s))
  else .next (raiseConfigError s)

/-- SAMPLEAUX (43_orchestrator.md R172): the check, START, and the first attempt. -/
def execSampleaux (n : Nat) (maxRetry : MaxRetry) (s : State) : Host.Outcome State Fault Refusal :=
  if legalSample n s then .next (attempt ⟨.aux, n, maxRetry⟩ (startSample .aux s))
  else .next (raiseConfigError s)

end Sys2Proof.Machine
end

