-- ==== Sys2Proof/Machine/Dispatch.lean ====
section
/-! DEFINITION. Sys2Proof/Machine/Dispatch.lean: the meaning of every instruction, one arm per row of
spec/opcode_table.json, in the table's order. -/

namespace Sys2Proof.Machine

/-- The meaning of an instruction: what it does when every transport call returns and no reset falls. `step` says
what becomes of it otherwise (60_exceptions.md R194, 70_reset_and_hazards.md R221). -/
def exec (i : Instr) (s : State) : Host.Outcome State Fault Refusal :=
  match i with
  | .peccomp bytes => Sys2Proof.Machine.execPeccomp bytes s
  | .pecverify bytes expected => Sys2Proof.Machine.execPecverify bytes expected s
  | .configure mode dcp ch chg => Sys2Proof.Machine.execConfigure mode dcp ch chg s
  | .rdcv g n => Sys2Proof.Machine.execRdcv g n s
  | .rdaux g n => Sys2Proof.Machine.execRdaux g n s
  | .wrcfg n blocks => Sys2Proof.Machine.execWrcfg n blocks s
  | .rdcfg n => Sys2Proof.Machine.execRdcfg n s
  | .samplev n m => Sys2Proof.Machine.execSamplev n m s
  | .sampleaux n m => Sys2Proof.Machine.execSampleaux n m s
  | .adcv => Sys2Proof.Machine.execAdcv s
  | .adax => Sys2Proof.Machine.execAdax s
  | .clrcell => Sys2Proof.Machine.execClrcell s
  | .clraux => Sys2Proof.Machine.execClraux s
  | .encAdcv _ _ _ => Sys2Proof.Machine.execEncAdcv s
  | .encAdax _ _ => Sys2Proof.Machine.execEncAdax s
  | .encRdcva => Sys2Proof.Machine.execEncRdcva s
  | .encRdcvb => Sys2Proof.Machine.execEncRdcvb s
  | .encRdcvc => Sys2Proof.Machine.execEncRdcvc s
  | .encRdcvd => Sys2Proof.Machine.execEncRdcvd s
  | .encRdauxa => Sys2Proof.Machine.execEncRdauxa s
  | .encRdauxb => Sys2Proof.Machine.execEncRdauxb s
  | .encRdcfg => Sys2Proof.Machine.execEncRdcfg s
  | .encWrcfg => Sys2Proof.Machine.execEncWrcfg s
  | .encClrcell => Sys2Proof.Machine.execEncClrcell s
  | .encClraux => Sys2Proof.Machine.execEncClraux s

end Sys2Proof.Machine
end

