-- ==== Sys2Proof/Machine/Fetch.lean ====
section
/-! DEFINITION. Sys2Proof/Machine/Fetch.lean: where the next instruction comes from. PECF fetches nothing from memory
(20_memory.md R55): the host presents a request (30_encoding.md R74), or the sequencer calls an encoder
(41_command_encoder.md R111, log 16). -/

namespace Sys2Proof.Machine

/-- The command word of a selected encoder, as spec/opcode_table.json numbers it: the default fixed bits,
and in a conversion word the sticky registers its fields hold (30_encoding.md R66 to R68). -/
def selectorWord (c : WireCmd) (r : Regs) : Code :=
  match c with
  | .adcv => adcvWord r.md r.dcp r.ch
  | .adax => adaxWord r.md r.chg
  | .rdcva => 0x0004
  | .rdcvb => 0x0006
  | .rdcvc => 0x0008
  | .rdcvd => 0x000A
  | .rdauxa => 0x000C
  | .rdauxb => 0x000E
  | .rdcfg => 0x0002
  | .wrcfg => 0x0001
  | .clrcell => 0x0711
  | .clraux => 0x0712

/-- The port and the bytes of the next instruction, if there is one: an encoder call that was placed, else
the oldest request of the host. -/
def fetchBytes (s : State) : Option (Port × List Byte) :=
  match s.host.encSel with
  | some c => some (.wire, putWord (selectorWord c s.regs))
  | none =>
    match s.host.requests with
    | msg :: _ => some (.host, msg)
    | [] => none

/-- The next instruction, decoded. -/
def fetch (s : State) : Option (Except DecodeError Instr) :=
  (fetchBytes s).map fun pb => decode pb.1 pb.2

/-- Take the instruction just fetched off its port. -/
def accept (s : State) : State :=
  match s.host.encSel with
  | some _ => s.setInputs s.host.requests none
  | none => s.setInputs s.host.requests.tail none

/-- Make PECF idle with this encoder call placed and nothing to cut it short, MD, DCP, CH, CHG holding the
fields of its word. -/
def placeEncoder (c : WireCmd) (md : BitVec 2) (dcp : BitVec 1) (ch chg : BitVec 3) (s : State) : State :=
  { s with
    regs.md := md, regs.dcp := dcp, regs.ch := ch, regs.chg := chg
    host.encSel := some c, host.active := none
    bus.hangIn := none, bus.resetIn := none }

/-- Make PECF idle with this request next at the host port and nothing to cut it short. -/
def placeRequest (msg : List Byte) (s : State) : State :=
  { s with
    host.requests := msg :: s.host.requests, host.encSel := none, host.active := none
    bus.hangIn := none, bus.resetIn := none }

/-- Place the encoder call whose command word decodes to `i`; a conversion word's fields are held by the
sticky registers (30_encoding.md R67, R68, log 16). An instruction of the host port is left alone. -/
def placeWord (i : Instr) (s : State) : State :=
  match i with
  | .encAdcv md dcp ch => placeEncoder .adcv md dcp ch s.regs.chg s
  | .encAdax md chg => placeEncoder .adax md s.regs.dcp s.regs.ch chg s
  | .encRdcva => placeEncoder .rdcva s.regs.md s.regs.dcp s.regs.ch s.regs.chg s
  | .encRdcvb => placeEncoder .rdcvb s.regs.md s.regs.dcp s.regs.ch s.regs.chg s
  | .encRdcvc => placeEncoder .rdcvc s.regs.md s.regs.dcp s.regs.ch s.regs.chg s
  | .encRdcvd => placeEncoder .rdcvd s.regs.md s.regs.dcp s.regs.ch s.regs.chg s
  | .encRdauxa => placeEncoder .rdauxa s.regs.md s.regs.dcp s.regs.ch s.regs.chg s
  | .encRdauxb => placeEncoder .rdauxb s.regs.md s.regs.dcp s.regs.ch s.regs.chg s
  | .encRdcfg => placeEncoder .rdcfg s.regs.md s.regs.dcp s.regs.ch s.regs.chg s
  | .encWrcfg => placeEncoder .wrcfg s.regs.md s.regs.dcp s.regs.ch s.regs.chg s
  | .encClrcell => placeEncoder .clrcell s.regs.md s.regs.dcp s.regs.ch s.regs.chg s
  | .encClraux => placeEncoder .clraux s.regs.md s.regs.dcp s.regs.ch s.regs.chg s
  | .peccomp _ => s
  | .pecverify _ _ => s
  | .configure _ _ _ _ => s
  | .rdcv _ _ => s
  | .rdaux _ _ => s
  | .wrcfg _ _ => s
  | .rdcfg _ => s
  | .samplev _ _ => s
  | .sampleaux _ _ => s
  | .adcv => s
  | .adax => s
  | .clrcell => s
  | .clraux => s

/-- A word of spec/opcode_table.json placed where the next step fetches it: a host request with zero
operands, or an encoder call. -/
def placeTableWord (nbits w : Nat) (s : State) : State :=
  if nbits ≤ 8 then placeRequest (tableRequest w) s
  else
    match decodeWire (tableCommandBytes w) with
    | .ok i => placeWord i s
    | .error _ => s

end Sys2Proof.Machine
end

