-- ==== Sys2Proof/Machine/Step.lean ====
section
/-! DEFINITION. Sys2Proof/Machine/Step.lean: one step of PECF: a reset that is due, else the next attempt of the sample
operation in progress, else the next instruction, else idle (log 15, log 19). `exec` says what an instruction does
when the adapter answers and no reset falls; `settle` says what becomes of it otherwise. -/

namespace Sys2Proof.Machine

/-- PECF takes the next instruction when idle. A request no operation answers to is ConfigError
(30_encoding.md R76, log 14); with no request a moment passes. -/
def stepIdle (s : State) : Host.Outcome State Fault Refusal :=
  match fetch s with
  | some (.ok i) => settleOutcome (accept s) (exec i (accept s))
  | some (.error _) => settle (accept s) (raiseConfigError (accept s))
  | none => .next s.passMoment

/-- One step when no reset is due. A sample operation that is in READ goes on with its next attempt; no START
is sent again (43_orchestrator.md R170, 70_reset_and_hazards.md R228). -/
def stepRunning (s : State) : Host.Outcome State Fault Refusal :=
  match s.host.active with
  | some a => settle s (attempt a s)
  | none => stepIdle s

/-- One step of PECF. -/
def step (s : State) : Host.Outcome State Fault Refusal :=
  if s.bus.resetIn = some 0 then .next (hostReset Cut.none s) else stepRunning s

/-- The state with a word of spec/opcode_table.json placed where the next step fetches it (log 20). -/
def State.withFetchWord (s : State) (nbits w : Nat) : State := placeTableWord nbits w s

end Sys2Proof.Machine
end

