-- ==== Sys2Proof/Safety.lean ====
section
/-! DEFINITION. Sys2Proof/Safety.lean: the terms claims are stated in: a reliable environment, the bytes a read will
receive, what a well-formed bus trace is, and the invariant of the machine. -/

namespace Sys2Proof.Machine

/-- The environment assumption of 60_exceptions.md R194 ("treats transport calls as always eventually
returning"), and no reset on its way. -/
abbrev Reliable (s : State) : Prop := s.bus.hangIn = none ∧ s.bus.resetIn = none

/-- The outcome is a next state. -/
def isNext (o : Host.Outcome State Fault Refusal) : Bool :=
  match o with
  | .next _ => true
  | .fault _ => false
  | .refused _ => false

/-- The 8 bytes the environment will answer from position `pos` of its byte stream on. -/
def streamBlock (b : BusPort) (pos : Nat) : List Byte := (List.range 8).map fun i => b.byteAt (pos + i)

/-- Where in the stream the block of device `d` lies, in the `j`-th transaction of a read of `n` devices
(20_memory.md R47, R57). -/
def blockPos (n j d : Nat) : Nat := 8 * n * j + 8 * d

/-- Some block of `k` consecutive read transactions of `n` devices will not match its PEC. -/
def anyMismatch (p : Params) (b : BusPort) (k n : Nat) : Bool :=
  (List.range k).any fun j => (List.range n).any fun d => mismatch p.table (streamBlock b (blockPos n j d))

/-- The four events of one transaction (42_register_access.md R140). -/
def transaction (kind : WakeKind) (tx rx : List Byte) : List BusEvent :=
  [.wake kind, .csAssert, .xfer tx rx, .csDeassert]

/-- The events of a group read of `n` devices as the `j`-th transaction of its call (42_register_access.md
R144). -/
def readTransaction (s : State) (n j : Nat) (c : WireCmd) : List BusEvent :=
  transaction (wakeKind s.par c) (frame s.par.table (opcode s.par c))
    ((List.range (8 * n)).map fun i => s.bus.byteAt (8 * n * j + i))

/-- The events of a read call of `n` devices over some wire commands in order. -/
def readTrace (s : State) (n : Nat) (cs : List WireCmd) : List BusEvent :=
  cs.zipIdx.flatMap fun ⟨c, j⟩ => readTransaction s n j c

/-- The events of a transaction that sends the frame of a wire command and receives nothing. -/
def commandTrace (s : State) (c : WireCmd) : List BusEvent :=
  transaction (wakeKind s.par c) (frame s.par.table (commandWord c s)) []

/-- The three mode numbers (30_encoding.md R69). -/
def modes (p : Params) : List (BitVec 2) := [p.modeFast, p.modeNormal, p.modeFiltered]

/-- The transport port after some events that received `k` bytes, no transaction open: everything else at it is
as before. -/
def BusPort.afterTraffic (b : BusPort) (evs : List BusEvent) (k : Nat) : BusPort :=
  { b with
    cs := false, trace := b.trace ++ evs, link := b.link.drop k, draws := b.draws + (k - b.link.length) }

/-- The command words PECF may transmit (30_encoding.md R77): the ten fixed ones, 48 ADCV words, 24 ADAX
words. -/
def sendable (p : Params) (w : Code) : Bool :=
  (modes p).any (fun md =>
    (List.range 2).any (fun dcp => (List.range 8).any (fun ch =>
      w == opcode p .adcv ||| (md.setWidth 16 <<< 7) ||| (BitVec.ofNat 16 dcp <<< 4) ||| BitVec.ofNat 16 ch)) ||
    (List.range 8).any (fun chg => w == opcode p .adax ||| (md.setWidth 16 <<< 7) ||| BitVec.ofNat 16 chg)) ||
  [WireCmd.rdcva, .rdcvb, .rdcvc, .rdcvd, .rdauxa, .rdauxb, .rdcfg, .wrcfg, .clrcell, .clraux].any
    (fun c => w == opcode p c)

/-- The bytes of one exchange are a frame of a sendable word, alone or followed by 1 to 16 blocks with their
PEC, and the answer is 0 to 16 blocks long, none after a burst (30_encoding.md R60, R61, R65, R77). -/
def exchangeOk (p : Params) (tx rx : List Byte) : Bool :=
  sendable p (wordOfBytes (tx.getD 0 0) (tx.getD 1 0)) &&
  pecverify p.table (tx.take 2) (wordOfBytes (tx.getD 2 0) (tx.getD 3 0)) &&
  ((decide (tx.length = 4) && (List.range 17).any fun n => decide (rx.length = 8 * n)) ||
   (decide (rx = []) && (List.range 16).any fun n => decide (tx.length = 4 + 8 * (n + 1)) &&
      (List.range (n + 1)).all fun i => !mismatch p.table ((tx.drop (4 + 8 * i)).take 8)))

/-- The trace is a sequence of whole transactions, each of a good exchange (20_memory.md R51,
70_reset_and_hazards.md R224, R225). -/
def traceOk (p : Params) : List BusEvent → Bool
  | [] => true
  | .wake _ :: .csAssert :: .xfer tx rx :: .csDeassert :: rest => exchangeOk p tx rx && traceOk p rest
  | _ => false

/-- A sample operation in progress is legal: its count is, the configuration was written, ORCH is READ, and
RETRIES has not passed its bound (43_orchestrator.md R170, 10_state.md R23). -/
def activeOk (r : Regs) (active : Option Sample) : Bool :=
  match active with
  | none => true
  | some a =>
    legalCount a.n && r.cfgValid && decide (r.orch = .read) &&
    match a.maxRetry with
    | .unbounded => true
    | .count m => decide (r.retries ≤ m)

/-- The invariant every step keeps: between steps no transaction is open, the trace is whole transactions of
good exchanges, the buffer lengths are in range, a configuration that was written holds a mode, and a sample
operation in progress is legal. -/
abbrev StateInv (s : State) : Prop :=
  s.bus.cs = false ∧ traceOk s.par s.bus.trace = true ∧
  s.regs.txlen.toNat ≤ 132 ∧ s.regs.rxlen.toNat ≤ 128 ∧
  (s.regs.cfgValid = true → legalMode s.par s.regs.md.toNat = true) ∧
  activeOk s.regs s.host.active = true

/-- The bit-serial form of the checksum with generator 0x4599: one bit into the 15-bit register
(40_checksum.md R97). -/
def serialBit (q : BitVec 15) (bit : Bool) : BitVec 15 :=
  if (bit ^^ q.getLsbD 14) then (q <<< 1) ^^^ 0x4599 else q <<< 1

/-- One byte, most significant bit first (40_checksum.md R97). -/
def serialByte (q : BitVec 15) (b : Byte) : BitVec 15 :=
  [7, 6, 5, 4, 3, 2, 1, 0].foldl (fun q k => serialBit q (b.getLsbD k)) q

/-- `{q, 0}` after every byte (40_checksum.md R97). -/
def serialPec (bytes : List Byte) : Code := (bytes.foldl serialByte 0x0010) ++ (0 : BitVec 1)

/-- The generating rule of the default table: 8 shift steps on 16 bits that test bit 14 (40_checksum.md
R91). -/
def generatedEntry (i : BitVec 8) : BitVec 16 :=
  (List.range 8).foldl
    (fun r _ => if r.getLsbD 14 then (r <<< 1) ^^^ 0x4599 else r <<< 1) (i.setWidth 16 <<< 7)

/-- The read operation of a bank. -/
def readInstr (b : Bank) (g n : Nat) : Instr :=
  match b with
  | .cell => .rdcv g n
  | .aux => .rdaux g n

/-- The sample operation of a bank. -/
def sampleInstr (b : Bank) (n : Nat) (m : MaxRetry) : Instr :=
  match b with
  | .cell => .samplev n m
  | .aux => .sampleaux n m

/-- The read commands of a bank, in group order (30_encoding.md R78). -/
def readCommands : Bank → List WireCmd
  | .cell => [.rdcva, .rdcvb, .rdcvc, .rdcvd]
  | .aux => [.rdauxa, .rdauxb]

/-- The read commands a selector names: all for ALL, else the one of group `g - 1`. -/
def selectedCommands (b : Bank) (g : Nat) : List WireCmd :=
  if g = 0 then readCommands b else ((readCommands b).drop (g - 1)).take 1

/-- The code the environment will answer for a device and a channel of a read of all groups. -/
def streamCode (b : BusPort) (n d c : Nat) : Code := codeOf (streamBlock b (blockPos n (c / 3) d)) (c % 3)

/-- The payload of a sample of `n` devices whose attempt finds these bytes: scaled and clamped voltages, or
raw codes (43_orchestrator.md R171, R172). -/
def streamPayload (p : Params) (bus : BusPort) (b : Bank) (n : Nat) : Payload :=
  match b with
  | .cell => .volts ((List.range n).flatMap fun d =>
      (List.range 12).map fun c => voltage p (streamCode bus n d c))
  | .aux => .codes ((List.range n).flatMap fun d => (List.range 6).map fun c => streamCode bus n d c)

/-- How many transactions the instruction makes in its own step when its operands are legal: fixed by the
operands (42_register_access.md R155); a sample makes the start and one attempt (43_orchestrator.md R171,
R172). -/
def transactions : Instr → Nat
  | .peccomp _ => 0
  | .pecverify _ _ => 0
  | .configure _ _ _ _ => 0
  | .rdcv g _ => if g = 0 then 4 else 1
  | .rdaux g _ => if g = 0 then 2 else 1
  | .wrcfg _ _ => 1
  | .rdcfg _ => 1
  | .samplev _ _ => 5
  | .sampleaux _ _ => 3
  | .adcv => 1
  | .adax => 1
  | .clrcell => 1
  | .clraux => 1
  | .encAdcv _ _ _ => 0
  | .encAdax _ _ => 0
  | .encRdcva => 0
  | .encRdcvb => 0
  | .encRdcvc => 0
  | .encRdcvd => 0
  | .encRdauxa => 0
  | .encRdauxb => 0
  | .encRdcfg => 0
  | .encWrcfg => 0
  | .encClrcell => 0
  | .encClraux => 0

/-- How many bytes, sent and received, the exchanges of those transactions have: 4 for a frame, 8 for each block
(30_encoding.md R60, R61, R65). -/
def exchanged : Instr → Nat
  | .peccomp _ => 0
  | .pecverify _ _ => 0
  | .configure _ _ _ _ => 0
  | .rdcv g n => (if g = 0 then 4 else 1) * (4 + 8 * n)
  | .rdaux g n => (if g = 0 then 2 else 1) * (4 + 8 * n)
  | .wrcfg n _ => 4 + 8 * n
  | .rdcfg n => 4 + 8 * n
  | .samplev n _ => 4 + 4 * (4 + 8 * n)
  | .sampleaux n _ => 4 + 2 * (4 + 8 * n)
  | .adcv => 4
  | .adax => 4
  | .clrcell => 4
  | .clraux => 4
  | .encAdcv _ _ _ => 0
  | .encAdax _ _ => 0
  | .encRdcva => 0
  | .encRdcvb => 0
  | .encRdcvc => 0
  | .encRdcvd => 0
  | .encRdauxa => 0
  | .encRdauxb => 0
  | .encRdcfg => 0
  | .encWrcfg => 0
  | .encClrcell => 0
  | .encClraux => 0

/-- The moments of the events of a well-formed instruction's own step: its bytes, and for each transaction the
wake, the two chip-select events and the return of the exchange (log 12). -/
def busMoments (i : Instr) : Nat := 4 * transactions i + exchanged i

/-- Those of them in which PECF waits on the adapter: no chip-select events (log 11). -/
def waitMoments (i : Instr) : Nat := 2 * transactions i + exchanged i

/-- `busMoments` of one attempt of a sample. -/
def attemptMoments (a : Sample) : Nat := a.bank.groups * (4 + (4 + 8 * a.n))

/-- `waitMoments` of one attempt of a sample. -/
def attemptWaits (a : Sample) : Nat := a.bank.groups * (2 + (4 + 8 * a.n))

/-- `run` is the record of the step from `s` to `t` cut after `k` moments of the measure `w`: the responses
delivered before it, the trace so far and whole events of the step that `t` ends, and, of the event that comes
next, the bytes that went through. -/
def IsCutAt (w : BusEvent → Nat) (k : Nat) (s t : State) (run : EndedRun) : Prop :=
  run.responses = s.host.responses ∧ s.bus.trace <+: run.trace ∧
  totalOf w (run.trace.drop s.bus.trace.length) + run.sent.length + run.received.length = k ∧
  ((t.bus.trace = run.trace ∧ run.sent = [] ∧ run.received = []) ∨
    ∃ e rest m, t.bus.trace = run.trace ++ e :: rest ∧
      (e.cutAfter m).sent = run.sent ∧ (e.cutAfter m).received = run.received)

/-- Malformed caller input, causes 2 to 5 of 60_exceptions.md R193 (cause 1, an undefined HOP, is no
instruction). -/
def malformed (i : Instr) (s : State) : Prop :=
  match i with
  | .peccomp _ => False
  | .pecverify _ _ => False
  | .configure mode dcp ch chg =>
    (mode ≠ s.par.modeFast.toNat ∧ mode ≠ s.par.modeNormal.toNat ∧ mode ≠ s.par.modeFiltered.toNat) ∨
      1 < dcp ∨ 7 < ch ∨ 7 < chg
  | .rdcv g n => 4 < g ∨ n < 1 ∨ 16 < n
  | .rdaux g n => 2 < g ∨ n < 1 ∨ 16 < n
  | .wrcfg n _ => n < 1 ∨ 16 < n
  | .rdcfg n => n < 1 ∨ 16 < n
  | .samplev n _ => n < 1 ∨ 16 < n ∨ s.regs.cfgValid = false
  | .sampleaux n _ => n < 1 ∨ 16 < n ∨ s.regs.cfgValid = false
  | .adcv => s.regs.cfgValid = false
  | .adax => s.regs.cfgValid = false
  | .clrcell => False
  | .clraux => False
  | .encAdcv _ _ _ => False
  | .encAdax _ _ => False
  | .encRdcva => False
  | .encRdcvb => False
  | .encRdcvc => False
  | .encRdcvd => False
  | .encRdauxa => False
  | .encRdauxb => False
  | .encRdcfg => False
  | .encWrcfg => False
  | .encClrcell => False
  | .encClraux => False

/-- Which operation can return which status (60_exceptions.md R191). The encoders give no response. -/
def mayReturn (i : Instr) (st : Status) : Bool :=
  match i with
  | .peccomp _ => decide (st = .ok)
  | .pecverify _ _ => decide (st = .ok)
  | .configure _ _ _ _ => decide (st = .ok ∨ st = .configError)
  | .rdcv _ _ => decide (st ≠ .retryExhausted)
  | .rdaux _ _ => decide (st ≠ .retryExhausted)
  | .wrcfg _ _ => decide (st = .ok ∨ st = .configError)
  | .rdcfg _ => decide (st ≠ .retryExhausted)
  | .samplev _ _ => decide (st ≠ .pecError)
  | .sampleaux _ _ => decide (st ≠ .pecError)
  | .adcv => decide (st = .ok ∨ st = .configError)
  | .adax => decide (st = .ok ∨ st = .configError)
  | .clrcell => decide (st = .ok)
  | .clraux => decide (st = .ok)
  | .encAdcv _ _ _ => false
  | .encAdax _ _ => false
  | .encRdcva => false
  | .encRdcvb => false
  | .encRdcvc => false
  | .encRdcvd => false
  | .encRdauxa => false
  | .encRdauxb => false
  | .encRdcfg => false
  | .encWrcfg => false
  | .encClrcell => false
  | .encClraux => false

/-- What 70_reset_and_hazards.md R220 and R221 say of the machine after a reset: CFG_VALID = 0, PEC_ERR = 0,
no transaction open, no operation in progress, the trace empty, no response of the interrupted operation. -/
def afterReset (t : State) : Prop :=
  t.regs.cfgValid = false ∧ t.regs.pecErr = false ∧ t.bus.cs = false ∧ t.bus.trace = [] ∧
  t.host.active = none ∧ t.host.responses = []

end Sys2Proof.Machine
end

