-- ==== Sys2Proof/Certificates/Slice0/Obligations.lean ====
section
/-! DEFINITION. Sys2Proof/Certificates/Slice0/Obligations.lean: the statements for the provers. A next state is written
as the state before with the fields that change, so each statement is also the frame of its operation: every field
it does not name is unchanged. -/

open Sys2Proof Sys2Proof.Machine

/-! ### The checksum engine -/

/-- R94: bit 0 of every PEC is 0, for every table. -/
def Obligations.PecLowBitIsZero : Prop :=
  ∀ (table : Vector (BitVec 16) 256) (bytes : List Byte), (pec15 table bytes).getLsbD 0 = false

/-- R93 in numbers: the remainder starts at 0x0010; a byte turns the remainder `r` into
`((r * 256) mod 65536) ^ TABLE[((r / 128) ^ byte) mod 256]`; the PEC is the remainder doubled, mod 65536. -/
def Obligations.PecTableStep : Prop :=
  ∀ (table : Vector (BitVec 16) 256) (bytes : List Byte),
    (pecRem table []).toNat = 0x0010 ∧
    (∀ b : Byte, (pecRem table (bytes ++ [b])).toNat =
      ((pecRem table bytes).toNat * 256 % 65536) ^^^
        (tableAt table (BitVec.ofNat 8 (((pecRem table bytes).toNat / 128 ^^^ b.toNat) % 256))).toNat) ∧
    (pec15 table bytes).toNat = (pecRem table bytes).toNat * 2 % 65536

/-- R96: two tables that agree but for bit 15 of their entries give the same PEC. -/
def Obligations.PecIgnoresTableBit15 : Prop :=
  ∀ (t1 t2 : Vector (BitVec 16) 256),
    (∀ i : BitVec 8, (tableAt t1 i).setWidth 15 = (tableAt t2 i).setWidth 15) →
    ∀ bytes : List Byte, pec15 t1 bytes = pec15 t2 bytes

/-- R91: every default table entry is what the generating loop computes. The default table is the spec's,
from general knowledge (log 2). -/
def Obligations.DefaultTableIsGenerated : Prop :=
  ∀ i : BitVec 8, tableAt Config.table i = generatedEntry i

/-- R97: with the default table (log 2) the table algorithm is the bit-serial one, for every byte
sequence. -/
def Obligations.PecEqualsBitSerialForm : Prop :=
  ∀ bytes : List Byte, pec15 Config.table bytes = serialPec bytes

/-- R99: with the default table (log 2) any single flipped bit changes the PEC, whatever the length. -/
def Obligations.PecDetectsSingleBitFlip : Prop :=
  ∀ (pre post : List Byte) (b : Byte) (k : Nat), k < 8 →
    pec15 Config.table (pre ++ (b ^^^ (1#8 <<< k)) :: post) ≠ pec15 Config.table (pre ++ b :: post)

/-- R99: with the default table (log 2) the PEC is affine over exclusive or, for sequences of equal
length. -/
def Obligations.PecIsAffine : Prop :=
  ∀ (a b : List Byte), a.length = b.length →
    pec15 Config.table (List.zipWith (· ^^^ ·) a b) =
      pec15 Config.table a ^^^ pec15 Config.table b ^^^ pec15 Config.table (List.replicate a.length 0)

/-- R101: PECCOMP answers ST_OK with the code, writes REM, and touches nothing else; the empty sequence gives
0x0020 with any table; one zero byte gives 0x2000 with any table whose entry 0 is 0. -/
def Obligations.PeccompResult : Prop :=
  (∀ (bytes : List Byte) (s : State),
    exec (.peccomp bytes) s = .next { s with
      regs.rem := pecRem s.par.table bytes
      host.responses := s.host.responses ++ [⟨.ok, .code (pec15 s.par.table bytes)⟩] }) ∧
  (∀ table : Vector (BitVec 16) 256, pec15 table [] = 0x0020) ∧
  (∀ table : Vector (BitVec 16) 256, tableAt table 0 = 0 → pec15 table [0x00] = 0x2000) ∧
  pec15 Config.table [0x00, 0x01] = 0x3D6E ∧
  (∀ bytes : List Byte, (encode (.peccomp bytes)).head? = some 0x00)

/-- R102: PECVERIFY answers ST_OK with the comparison, writes REM, and touches nothing else; an expected code
with bit 0 set never matches. -/
def Obligations.PecverifyResult : Prop :=
  (∀ (bytes : List Byte) (expected : Code) (s : State),
    exec (.pecverify bytes expected) s = .next { s with
      regs.rem := pecRem s.par.table bytes
      host.responses := s.host.responses ++
        [⟨.ok, .matched (decide (pec15 s.par.table bytes = expected))⟩] }) ∧
  (∀ (table : Vector (BitVec 16) 256) (bytes : List Byte) (expected : Code),
    expected.getLsbD 0 = true → pecverify table bytes expected = false) ∧
  (∀ table : Vector (BitVec 16) 256, pecverify table [] 0x0020 = true) ∧
  pecverify Config.table [0x00, 0x01] 0x3D6E = true ∧ pecverify Config.table [0x00, 0x01] 0x3D6F = false ∧
  (∀ (bytes : List Byte) (expected : Code), (encode (.pecverify bytes expected)).head? = some 0x01)

/-! ### The command encoder -/

/-- R110: CONFIGURE with legal operands writes the four fields and CFG_VALID, answers ST_OK, and touches
nothing else; with the default mode numbers (log 4) the legal modes are 1, 2, 3. -/
def Obligations.ConfigureWritesAllFields : Prop :=
  (∀ (mode dcp ch chg : Nat) (s : State),
    (mode = s.par.modeFast.toNat ∨ mode = s.par.modeNormal.toNat ∨ mode = s.par.modeFiltered.toNat) →
    dcp ≤ 1 → ch ≤ 7 → chg ≤ 7 →
    exec (.configure mode dcp ch chg) s = .next { s with
      regs.md := BitVec.ofNat 2 mode
      regs.dcp := BitVec.ofNat 1 dcp
      regs.ch := BitVec.ofNat 3 ch
      regs.chg := BitVec.ofNat 3 chg
      regs.cfgValid := true
      host.responses := s.host.responses ++ [⟨.ok, .absent⟩] }) ∧
  (∀ mode : Nat, legalMode Config.params mode = true ↔ mode = 1 ∨ mode = 2 ∨ mode = 3)

/-- R111: a frame is its command word and the PEC of its two bytes, both high byte first (byte orders: log 7
and log 8), and its PEC verifies. -/
def Obligations.FrameIsWordAndPec : Prop :=
  ∀ (table : Vector (BitVec 16) 256) (w : Code),
    let p := pec15 table [highByte w, lowByte w]
    frame table w = [highByte w, lowByte w, highByte p, lowByte p] ∧
    wordOfBytes (highByte w) (lowByte w) = w ∧
    pecverify table ((frame table w).take 2)
      (wordOfBytes ((frame table w).getD 2 0) ((frame table w).getD 3 0)) = true

/-- R112: enc_adcv returns the frame of `OPC_ADCV | (MD << 7) | (DCP << 4) | CH`, from the registers, for
every field value of the fetched word; it writes REM only. The default words of two different field values
differ, and the rule's three example frames come out. That the fields the constructor carries do not enter it is
log 17, that the frame stands in `encOut` log 18, and states with CFG_VALID = 0, outside the rule's precondition,
log 27: the model's choices. -/
def Obligations.EncAdcvFrame : Prop :=
  (∀ (md : BitVec 2) (dcp : BitVec 1) (ch : BitVec 3) (s : State),
    let w : Code := opcode s.par .adcv ||| (s.regs.md.setWidth 16 <<< 7) |||
      (s.regs.dcp.setWidth 16 <<< 4) ||| s.regs.ch.setWidth 16
    exec (.encAdcv md dcp ch) s = .next { s with
      regs.rem := pecRem s.par.table [highByte w, lowByte w]
      host.encOut := frame s.par.table w }) ∧
  (∀ (md md' : BitVec 2) (dcp dcp' : BitVec 1) (ch ch' : BitVec 3),
    adcvWord md dcp ch = adcvWord md' dcp' ch' → md = md' ∧ dcp = dcp' ∧ ch = ch') ∧
  opcode Config.params .adcv = 0x0260 ∧
  frame Config.table (adcvWord 2 0 0) = [0x03, 0x60, 0xF4, 0x6C] ∧
  frame Config.table (adcvWord 1 1 7) = [0x02, 0xF7, 0xC4, 0xD2] ∧
  frame Config.table (adcvWord 3 0 0) = [0x03, 0xE0, 0xB0, 0x4A]

/-- R113: enc_adax returns the frame of `OPC_ADAX | (MD << 7) | CHG`; DCP and CH do not enter it; it writes
REM only. The default words of two different field values differ, and the rule's two example frames come
out. That the fields the constructor carries do not enter it is log 17, that the frame stands in `encOut` log 18,
and states with CFG_VALID = 0, outside the rule's precondition, log 27: the model's choices. -/
def Obligations.EncAdaxFrame : Prop :=
  (∀ (md : BitVec 2) (chg : BitVec 3) (s : State),
    let w : Code := opcode s.par .adax ||| (s.regs.md.setWidth 16 <<< 7) ||| s.regs.chg.setWidth 16
    exec (.encAdax md chg) s = .next { s with
      regs.rem := pecRem s.par.table [highByte w, lowByte w]
      host.encOut := frame s.par.table w }) ∧
  (∀ (md md' : BitVec 2) (chg chg' : BitVec 3), adaxWord md chg = adaxWord md' chg' → md = md' ∧ chg = chg') ∧
  opcode Config.params .adax = 0x0460 ∧
  frame Config.table (adaxWord 2 0) = [0x05, 0x60, 0xD3, 0xA0] ∧
  frame Config.table (adaxWord 1 6) = [0x04, 0xE6, 0x33, 0x02]

/-- R114 to R123: with the default parameters (log 2, log 3) each of the ten fixed encoders returns the frame
its rule lists (in `encOut`, log 18), and writes REM only, in every state; each group's read command and channels
are those of its rule. -/
def Obligations.FixedEncoderFrames : Prop :=
  (∀ s : State, s.par.table = Config.table → s.par.opc = Config.opc →
    ∀ e ∈ ([(.encRdcva, [0x00, 0x04, 0x07, 0xC2]), (.encRdcvb, [0x00, 0x06, 0x9A, 0x94]),
            (.encRdcvc, [0x00, 0x08, 0x5E, 0x52]), (.encRdcvd, [0x00, 0x0A, 0xC3, 0x04]),
            (.encRdauxa, [0x00, 0x0C, 0xEF, 0xCC]), (.encRdauxb, [0x00, 0x0E, 0x72, 0x9A]),
            (.encRdcfg, [0x00, 0x02, 0x2B, 0x0A]), (.encWrcfg, [0x00, 0x01, 0x3D, 0x6E]),
            (.encClrcell, [0x07, 0x11, 0xC9, 0xC0]), (.encClraux, [0x07, 0x12, 0xDF, 0xA4])] :
            List (Instr × List Byte)),
      exec e.1 s = .next { s with
        regs.rem := pecRem Config.table (e.2.take 2)
        host.encOut := e.2 }) ∧
  (List.range 4).map (readCommand .cell) = [.rdcva, .rdcvb, .rdcvc, .rdcvd] ∧
  (List.range 2).map (readCommand .aux) = [.rdauxa, .rdauxb] ∧
  (List.range 4).map groupChannels = [[0, 1, 2], [3, 4, 5], [6, 7, 8], [9, 10, 11]]

/-- R114 to R123 for any parameters: each fixed encoder returns the frame of its own `OPC_*` word, reads no
register, and writes REM only. -/
def Obligations.FixedEncodersUseTheirOwnWord : Prop :=
  ∀ s : State,
    ∀ e ∈ ([(.encRdcva, .rdcva), (.encRdcvb, .rdcvb), (.encRdcvc, .rdcvc), (.encRdcvd, .rdcvd),
            (.encRdauxa, .rdauxa), (.encRdauxb, .rdauxb), (.encRdcfg, .rdcfg), (.encWrcfg, .wrcfg),
            (.encClrcell, .clrcell), (.encClraux, .clraux)] : List (Instr × WireCmd)),
      exec e.1 s = .next { s with
        regs.rem := pecRem s.par.table [highByte (opcode s.par e.2), lowByte (opcode s.par e.2)]
        host.encOut := frame s.par.table (opcode s.par e.2) }

/-! ### Register access -/

/-- R142 and R43: code `k` of a block is `blk[2k] + 256 * blk[2k+1]`. -/
def Obligations.ChannelCodesAreLittleEndian : Prop :=
  ∀ (blk : List Byte) (k : Nat), blk.length = 8 → k < 3 →
    (codeOf blk k).toNat = (blk.getD (2 * k) 0).toNat + 256 * (blk.getD (2 * k + 1) 0).toNat

/-- R143: `check` sets PEC_ERR when the PEC of bytes 0..5 differs from `{blk[6], blk[7]}`, leaves it on a match,
and writes nothing else but REM. -/
def Obligations.CheckSetsFlagOnMismatchOnly : Prop :=
  ∀ (blk : List Byte) (s : State), blk.length = 8 →
    checkBlock blk s = { s with
      regs.rem := pecRem s.par.table (blk.take 6)
      regs.pecErr :=
        if pec15 s.par.table (blk.take 6) ≠ wordOfBytes (blk.getD 6 0) (blk.getD 7 0) then true
        else s.regs.pecErr }

/-- R140, R141: one transaction adds exactly Wake of the policy's kind, CsAssert, Xfer, CsDeassert to the
trace, sends TXBUF[0..TXLEN-1], fills RXBUF[0..k-1] with the environment's next `k` bytes, and leaves every
other register, the host port and the rest of RXBUF alone. -/
def Obligations.TransactionEvents : Prop :=
  ∀ (c : WireCmd) (k : Nat) (s : State), k ≤ 128 →
    (∃ v : Vector Byte 128, transact c k s = { s with
      regs.rxbuf := v
      regs.rxlen := BitVec.ofNat 8 k
      bus.cs := false
      bus.trace := s.bus.trace ++ [.wake (s.par.wakePolicy[c.idx]), .csAssert,
        .xfer ((List.range s.regs.txlen.toNat).map fun i => bufByte s.regs.txbuf i)
          ((List.range k).map s.bus.byteAt), .csDeassert]
      bus.link := s.bus.link.drop k
      bus.draws := s.bus.draws + (k - s.bus.link.length) } ∧
      (∀ i, i < k → bufByte v i = s.bus.byteAt i) ∧
      (∀ i, k ≤ i → bufByte v i = bufByte s.regs.rxbuf i))

/-- R145: RDCV with legal operands completes: the slots of the selected groups of devices 0..n-1 hold
the codes the chain sent and every other slot is as before; PEC_ERR tells whether any block of any of its
transactions mismatched; one transaction for a group, 4 in order for ALL; the payload is there whatever the
checks say. Of the rest only REM, TXBUF[0..3], TXLEN, RXBUF[0..8n-1] and RXLEN change. Illegal operands are
answered with ST_CONFIG_ERROR and change nothing. With the default table a block of zeros or of ones does not match. -/
def Obligations.RdcvResult : Prop :=
  (∀ (g n : Nat) (s : State), g ≤ 4 → 1 ≤ n → n ≤ 16 →
    ∃ t, exec (.rdcv g n) s = .next t ∧
      (∀ d c, d < 16 → c < 12 → slotAt t.regs.cell d c =
        if d < n ∧ (g = 0 ∨ c / 3 = g - 1)
        then codeOf (streamBlock s.bus (blockPos n (if g = 0 then c / 3 else 0) d)) (c % 3)
        else slotAt s.regs.cell d c) ∧
      t.regs.pecErr = anyMismatch s.par s.bus (if g = 0 then 4 else 1) n ∧
      t.bus = s.bus.afterTraffic (readTrace s n (selectedCommands .cell g))
        (8 * n * (if g = 0 then 4 else 1)) ∧
      t.host = { s.host with responses := s.host.responses ++
        [⟨if t.regs.pecErr then .pecError else .ok, .codes ((List.range n).flatMap fun d =>
          (if g = 0 then List.range 12 else [3 * (g - 1), 3 * (g - 1) + 1, 3 * (g - 1) + 2]).map fun c =>
            slotAt t.regs.cell d c)⟩] } ∧
      t.regs = { s.regs with
        rem := t.regs.rem, pecErr := t.regs.pecErr, cell := t.regs.cell
        txbuf := t.regs.txbuf, txlen := 4, rxbuf := t.regs.rxbuf, rxlen := BitVec.ofNat 8 (8 * n) } ∧
      (∀ i, 4 ≤ i → bufByte t.regs.txbuf i = bufByte s.regs.txbuf i) ∧
      (∀ i, 8 * n ≤ i → bufByte t.regs.rxbuf i = bufByte s.regs.rxbuf i) ∧
      t.past = s.past ∧ t.par = s.par) ∧
  (∀ (g n : Nat) (s : State), (4 < g ∨ n < 1 ∨ 16 < n) →
    exec (.rdcv g n) s = .next { s with
      host.responses := s.host.responses ++ [⟨.configError, .absent⟩] }) ∧
  pec15 Config.table (List.replicate 6 0x00) = 0xC212 ∧ pec15 Config.table (List.replicate 6 0xFF) = 0x664C ∧
  (∀ g n : Nat, (encode (.rdcv g n)).head? = some 0x03)

/-- R146: RDAUX with legal operands completes: the slots of the selected groups of devices 0..n-1 hold
the codes the chain sent and every other slot is as before; PEC_ERR tells whether any block of any of its
transactions mismatched; one transaction for a group, 2 in order for ALL; the payload is there whatever the
checks say. Of the rest only REM, TXBUF[0..3], TXLEN, RXBUF[0..8n-1] and RXLEN change. Illegal operands are
answered with ST_CONFIG_ERROR and change nothing. -/
def Obligations.RdauxResult : Prop :=
  (∀ (g n : Nat) (s : State), g ≤ 2 → 1 ≤ n → n ≤ 16 →
    ∃ t, exec (.rdaux g n) s = .next t ∧
      (∀ d c, d < 16 → c < 6 → slotAt t.regs.aux d c =
        if d < n ∧ (g = 0 ∨ c / 3 = g - 1)
        then codeOf (streamBlock s.bus (blockPos n (if g = 0 then c / 3 else 0) d)) (c % 3)
        else slotAt s.regs.aux d c) ∧
      t.regs.pecErr = anyMismatch s.par s.bus (if g = 0 then 2 else 1) n ∧
      t.bus = s.bus.afterTraffic (readTrace s n (selectedCommands .aux g))
        (8 * n * (if g = 0 then 2 else 1)) ∧
      t.host = { s.host with responses := s.host.responses ++
        [⟨if t.regs.pecErr then .pecError else .ok, .codes ((List.range n).flatMap fun d =>
          (if g = 0 then List.range 6 else [3 * (g - 1), 3 * (g - 1) + 1, 3 * (g - 1) + 2]).map fun c =>
            slotAt t.regs.aux d c)⟩] } ∧
      t.regs = { s.regs with
        rem := t.regs.rem, pecErr := t.regs.pecErr, aux := t.regs.aux
        txbuf := t.regs.txbuf, txlen := 4, rxbuf := t.regs.rxbuf, rxlen := BitVec.ofNat 8 (8 * n) } ∧
      (∀ i, 4 ≤ i → bufByte t.regs.txbuf i = bufByte s.regs.txbuf i) ∧
      (∀ i, 8 * n ≤ i → bufByte t.regs.rxbuf i = bufByte s.regs.rxbuf i) ∧
      t.past = s.past ∧ t.par = s.par) ∧
  (∀ (g n : Nat) (s : State), (2 < g ∨ n < 1 ∨ 16 < n) →
    exec (.rdaux g n) s = .next { s with
      host.responses := s.host.responses ++ [⟨.configError, .absent⟩] }) ∧
  (∀ g n : Nat, (encode (.rdaux g n)).head? = some 0x04)

/-- R149: RDCFG with a legal count completes; CFGRX of devices 0..n-1 holds the 8 bytes the chain sent, every
other slot is as before, PEC_ERR tells whether a block mismatched, the payload is those bytes whatever the
checks say; one transaction. Nothing else but REM, the transmit frame and the receive buffer changes. An
illegal count is answered with ST_CONFIG_ERROR and changes nothing. -/
def Obligations.RdcfgResult : Prop :=
  (∀ (n : Nat) (s : State), 1 ≤ n → n ≤ 16 →
    ∃ t, exec (.rdcfg n) s = .next t ∧
      (∀ d j, d < 16 → j < 8 → slotAt t.regs.cfgrx d j =
        if d < n then s.bus.byteAt (8 * d + j) else slotAt s.regs.cfgrx d j) ∧
      t.regs.pecErr = anyMismatch s.par s.bus 1 n ∧
      t.bus = s.bus.afterTraffic (readTrace s n [.rdcfg]) (8 * n) ∧
      t.host = { s.host with responses := s.host.responses ++
        [⟨if t.regs.pecErr then .pecError else .ok,
          .blocks ((List.range n).map fun d => streamBlock s.bus (8 * d))⟩] } ∧
      t.regs = { s.regs with
        rem := t.regs.rem, pecErr := t.regs.pecErr, cfgrx := t.regs.cfgrx, txbuf := t.regs.txbuf, txlen := 4
        rxbuf := t.regs.rxbuf, rxlen := BitVec.ofNat 8 (8 * n) } ∧
      (∀ i, 4 ≤ i → bufByte t.regs.txbuf i = bufByte s.regs.txbuf i) ∧
      (∀ i, 8 * n ≤ i → bufByte t.regs.rxbuf i = bufByte s.regs.rxbuf i) ∧
      t.past = s.past ∧ t.par = s.par) ∧
  (∀ (n : Nat) (s : State), (n < 1 ∨ 16 < n) →
    exec (.rdcfg n) s = .next { s with
      host.responses := s.host.responses ++ [⟨.configError, .absent⟩] }) ∧
  (∀ n : Nat, (encode (.rdcfg n)).head? = some 0x06)

/-- R150: WRCFG with a legal count and `n` blocks sends, in one transaction that receives nothing, the
write-configuration frame and then each device's 6 bytes with their PEC, last device first; it answers ST_OK;
only REM, TXBUF[0..4+8n-1], TXLEN and RXLEN change. An illegal count is answered
with ST_CONFIG_ERROR and changes nothing. -/
def Obligations.WrcfgBurst : Prop :=
  (∀ (n : Nat) (blocks : List (Vector Byte 6)) (s : State), 1 ≤ n → n ≤ 16 → blocks.length = n →
    let tx := frame s.par.table (opcode s.par .wrcfg) ++
      blocks.reverse.flatMap fun b => withPec s.par.table b.toList
    tx.length = 4 + 8 * n ∧
    ∃ t, exec (.wrcfg n blocks) s = .next t ∧
      t.bus = s.bus.afterTraffic (transaction (wakeKind s.par .wrcfg) tx []) 0 ∧
      t.host = { s.host with responses := s.host.responses ++ [⟨.ok, .absent⟩] } ∧
      t.regs = { s.regs with
        rem := t.regs.rem, txbuf := t.regs.txbuf, txlen := BitVec.ofNat 8 (4 + 8 * n), rxlen := 0 } ∧
      memRead t.regs.txbuf 0 (4 + 8 * n) = tx ∧
      (∀ i, 4 + 8 * n ≤ i → bufByte t.regs.txbuf i = bufByte s.regs.txbuf i) ∧
      t.past = s.past ∧ t.par = s.par) ∧
  (∀ (n : Nat) (blocks : List (Vector Byte 6)) (s : State), (n < 1 ∨ 16 < n) →
    exec (.wrcfg n blocks) s = .next { s with
      host.responses := s.host.responses ++ [⟨.configError, .absent⟩] }) ∧
  (∀ (n : Nat) (blocks : List (Vector Byte 6)), (encode (.wrcfg n blocks)).head? = some 0x05)

/-- R151 to R154: ADCV and ADAX when configured, CLRCELL and CLRAUX always, send the frame of their command
in one transaction that receives nothing and answer ST_OK; only REM, TXBUF[0..3], TXLEN and RXLEN change:
no flag, and neither CELL nor AUX. ADCV and ADAX without a configuration are answered with ST_CONFIG_ERROR and
change nothing. -/
def Obligations.CommandOperations : Prop :=
  (∀ (e : Instr × WireCmd) (s : State),
    e ∈ ([(.adcv, .adcv), (.adax, .adax), (.clrcell, .clrcell), (.clraux, .clraux)] : List (Instr × WireCmd)) →
    (s.regs.cfgValid = true ∨ e.2 = .clrcell ∨ e.2 = .clraux) →
    exec e.1 s = .next { s with
      regs.rem := pecRem s.par.table [highByte (commandWord e.2 s), lowByte (commandWord e.2 s)]
      regs.txbuf := memWrite s.regs.txbuf 0 (frame s.par.table (commandWord e.2 s))
      regs.txlen := 4
      regs.rxlen := 0
      bus.cs := false
      bus.trace := s.bus.trace ++ transaction (wakeKind s.par e.2) (frame s.par.table (commandWord e.2 s)) []
      host.responses := s.host.responses ++ [⟨.ok, .absent⟩] }) ∧
  (∀ (i : Instr) (s : State), i = .adcv ∨ i = .adax → s.regs.cfgValid = false →
    exec i s = .next { s with
      host.responses := s.host.responses ++ [⟨.configError, .absent⟩] }) ∧
  encode .adcv = [0x09] ∧ encode .adax = [0x0A] ∧ encode .clrcell = [0x0B] ∧ encode .clraux = [0x0C] ∧
  frame Config.table (adcvWord 2 0 0) = [0x03, 0x60, 0xF4, 0x6C] ∧
  frame Config.table (adaxWord 2 0) = [0x05, 0x60, 0xD3, 0xA0] ∧
  frame Config.table (opcode Config.params .clrcell) = [0x07, 0x11, 0xC9, 0xC0] ∧
  frame Config.table (opcode Config.params .clraux) = [0x07, 0x12, 0xDF, 0xA4]

/-- R156: after a WRCFG, if the chain echoes to RDCFG the block that was sent for each device (device `d` at
write position `n - 1 - d`), CFGRX holds the blocks that were given, device by device, and the status is
ST_OK. -/
def Obligations.WriteThenReadRoundTrip : Prop :=
  ∀ (n : Nat) (blocks : List (Vector Byte 6)) (s t : State) (kind : WakeKind) (tx : List Byte),
    1 ≤ n → n ≤ 16 → blocks.length = n →
    exec (.wrcfg n blocks) s = .next t →
    t.bus.trace = s.bus.trace ++ transaction kind tx [] →
    (∀ d, d < n → streamBlock t.bus (8 * d) = (tx.drop (4 + 8 * (n - 1 - d))).take 8) →
    ∃ u, exec (.rdcfg n) t = .next u ∧
      (∀ d, d < n → ∀ j, j < 6 →
        slotAt u.regs.cfgrx d j = ((blocks[d]?).getD (Vector.replicate 6 0)).toList.getD j 0) ∧
      u.regs.pecErr = false ∧
      (∃ p, u.host.responses = t.host.responses ++ [⟨.ok, p⟩])

/-! ### The orchestrator -/

/-- R174, R175: a voltage is the code times 100 microvolts, at most 6 553 500, and zero when it lies strictly
below the noise floor. -/
def Obligations.VoltageIsScaledAndClamped : Prop :=
  ∀ (p : Params) (code : Code),
    scale code = code.toNat * 100 ∧ scale code ≤ 6553500 ∧
    (voltage p code).toNat = if code.toNat * 100 < p.noiseFloorUv then 0 else code.toNat * 100

/-- R171, R172: a sample whose first attempt finds no mismatch completes in one step: the start frame once,
then every group; ST_OK with the scaled and clamped voltages, or the raw auxiliary codes; ORCH is DONE, RETRIES
0, PEC_ERR 0; the raw codes stay in the array. -/
def Obligations.SampleFirstAttemptGood : Prop :=
  ∀ (b : Bank) (n : Nat) (m : MaxRetry) (s : State), 1 ≤ n → n ≤ 16 → s.regs.cfgValid = true →
    anyMismatch s.par s.bus (readCommands b).length n = false →
    ∃ t, exec (sampleInstr b n m) s = .next t ∧
      t.host = { s.host with
        active := none, responses := s.host.responses ++ [⟨.ok, streamPayload s.par s.bus b n⟩] } ∧
      t.bus = s.bus.afterTraffic (commandTrace s (startCommand b) ++ readTrace s n (readCommands b))
        (8 * n * b.groups) ∧
      t.past = s.past ∧ t.par = s.par ∧
      t.regs = { s.regs with
        rem := t.regs.rem, pecErr := false, orch := .done, retries := 0
        cell := if b = .cell then t.regs.cell else s.regs.cell
        aux := if b = .aux then t.regs.aux else s.regs.aux
        txbuf := t.regs.txbuf, txlen := 4, rxbuf := t.regs.rxbuf, rxlen := BitVec.ofNat 8 (8 * n) } ∧
      (∀ d c, d < 16 → c < b.channels → t.codeAt b d c =
        if d < n then streamCode s.bus n d c else s.codeAt b d c)

/-- R170, R173: a sample whose first attempt finds a mismatch stays in READ for another attempt when the bound
is UNBOUNDED or a count above 0, and fails with ST_RETRY_EXHAUSTED and no payload when it is 0; either way the
start frame was sent once and the array holds what was decoded. -/
def Obligations.SampleFirstAttemptBad : Prop :=
  ∀ (b : Bank) (n : Nat) (m : MaxRetry) (s : State), 1 ≤ n → n ≤ 16 → s.regs.cfgValid = true →
    anyMismatch s.par s.bus (readCommands b).length n = true →
    ∃ t, exec (sampleInstr b n m) s = .next t ∧
      t.bus = s.bus.afterTraffic (commandTrace s (startCommand b) ++ readTrace s n (readCommands b))
        (8 * n * b.groups) ∧
      t.past = s.past ∧ t.par = s.par ∧
      t.regs = { s.regs with
        rem := t.regs.rem, pecErr := true, orch := t.regs.orch, retries := t.regs.retries
        cell := if b = .cell then t.regs.cell else s.regs.cell
        aux := if b = .aux then t.regs.aux else s.regs.aux
        txbuf := t.regs.txbuf, txlen := 4, rxbuf := t.regs.rxbuf, rxlen := BitVec.ofNat 8 (8 * n) } ∧
      (∀ d c, d < 16 → c < b.channels → t.codeAt b d c =
        if d < n then streamCode s.bus n d c else s.codeAt b d c) ∧
      match m with
      | .unbounded => t.host = { s.host with active := some ⟨b, n, m⟩ } ∧ t.regs.orch = .read ∧ t.regs.retries = 0
      | .count k =>
        if k = 0 then t.host = { s.host with
            active := none, responses := s.host.responses ++ [⟨.retryExhausted, .absent⟩] } ∧
          t.regs.orch = .fail ∧ t.regs.retries = 0
        else t.host = { s.host with active := some ⟨b, n, m⟩ } ∧ t.regs.orch = .read ∧ t.regs.retries = 1

/-- R170, R228: the next attempt of a sample in READ is the next step; it sends the read frames only, no start;
with no mismatch it is DONE with the payload of that attempt's bytes alone. The array holds this attempt's codes
for devices 0..n-1; nothing else but REM, PEC_ERR, ORCH and the buffers changes. That an attempt is a step is the
model's choice (log 19). -/
def Obligations.RetryAttemptGood : Prop :=
  ∀ (a : Sample) (s : State), s.host.active = some a → 1 ≤ a.n → a.n ≤ 16 → Reliable s →
    anyMismatch s.par s.bus (readCommands a.bank).length a.n = false →
    ∃ t, step s = .next t ∧
      t.host = { s.host with
        active := none, responses := s.host.responses ++ [⟨.ok, streamPayload s.par s.bus a.bank a.n⟩] } ∧
      t.bus = s.bus.afterTraffic (readTrace s a.n (readCommands a.bank)) (8 * a.n * a.bank.groups) ∧
      t.past = s.past ∧ t.par = s.par ∧
      t.regs = { s.regs with
        rem := t.regs.rem, pecErr := false, orch := .done
        cell := if a.bank = .cell then t.regs.cell else s.regs.cell
        aux := if a.bank = .aux then t.regs.aux else s.regs.aux
        txbuf := t.regs.txbuf, txlen := 4, rxbuf := t.regs.rxbuf, rxlen := BitVec.ofNat 8 (8 * a.n) } ∧
      (∀ d c, d < 16 → c < a.bank.channels → t.codeAt a.bank d c =
        if d < a.n then streamCode s.bus a.n d c else s.codeAt a.bank d c)

/-- R170, R173, R195: a mismatching attempt of a sample in READ stays in READ under UNBOUNDED without counting;
counts one retry below a count; at the count it is FAIL, ST_RETRY_EXHAUSTED, no payload. Either way the array
holds this attempt's codes, over those of the attempt before, and nothing else but REM, PEC_ERR, ORCH, RETRIES and
the buffers changes. That an attempt is a step is the model's choice (log 19). -/
def Obligations.RetryAttemptBad : Prop :=
  ∀ (a : Sample) (s : State), s.host.active = some a → 1 ≤ a.n → a.n ≤ 16 → Reliable s →
    anyMismatch s.par s.bus (readCommands a.bank).length a.n = true →
    ∃ t, step s = .next t ∧
      t.bus = s.bus.afterTraffic (readTrace s a.n (readCommands a.bank)) (8 * a.n * a.bank.groups) ∧
      t.past = s.past ∧ t.par = s.par ∧
      t.regs = { s.regs with
        rem := t.regs.rem, pecErr := true, orch := t.regs.orch, retries := t.regs.retries
        cell := if a.bank = .cell then t.regs.cell else s.regs.cell
        aux := if a.bank = .aux then t.regs.aux else s.regs.aux
        txbuf := t.regs.txbuf, txlen := 4, rxbuf := t.regs.rxbuf, rxlen := BitVec.ofNat 8 (8 * a.n) } ∧
      (∀ d c, d < 16 → c < a.bank.channels → t.codeAt a.bank d c =
        if d < a.n then streamCode s.bus a.n d c else s.codeAt a.bank d c) ∧
      match a.maxRetry with
      | .unbounded => t.host = s.host ∧ t.regs.orch = s.regs.orch ∧ t.regs.retries = s.regs.retries
      | .count k =>
        if s.regs.retries < k then
          t.host = s.host ∧ t.regs.orch = s.regs.orch ∧ t.regs.retries = s.regs.retries + 1
        else t.host = { s.host with
            active := none, responses := s.host.responses ++ [⟨.retryExhausted, .absent⟩] } ∧
          t.regs.orch = .fail ∧ t.regs.retries = s.regs.retries

/-- R173, R230: with a count `m` a legal sample ends whatever the chain answers: after its own step, at most `m`
further steps, with exactly one response and at most `1 + G * (m + 1)` transactions. That an attempt is a step
is the model's choice (log 19). -/
def Obligations.BoundedSampleEnds : Prop :=
  ∀ (b : Bank) (n : Nat) (m : BitVec 16) (s : State), 1 ≤ n → n ≤ 16 → s.regs.cfgValid = true → Reliable s →
    ∃ s1 k t, exec (sampleInstr b n (.count m)) s = .next s1 ∧ k ≤ m.toNat ∧
      Sys2Proof.core.run k s1 = .next t ∧ t.host.active = none ∧
      t.host.responses.length = s.host.responses.length + 1 ∧
      t.bus.trace.length ≤ s.bus.trace.length + 4 * (1 + (readCommands b).length * (m.toNat + 1)) ∧
      t.regs.retries ≤ m

/-! ### Errors, reset and the environment -/

/-- R193: every malformed operation (causes 2 to 5), and every request whose HOP is outside 0x00..0x0C whatever
follows it (cause 1), is answered with ST_CONFIG_ERROR without payload, and nothing else changes: no bus event,
no register, no flag, no buffer. -/
def Obligations.MalformedInputIsRejected : Prop :=
  (∀ (i : Instr) (s : State), malformed i s →
    exec i s = .next { s with host.responses := s.host.responses ++ [⟨.configError, .absent⟩] }) ∧
  (∀ (hop : Byte) (rest : List Byte) (more : List (List Byte)) (s : State),
    0x0C < hop → s.bus.resetIn = none → s.host.active = none → s.host.encSel = none →
    s.host.requests = (hop :: rest) :: more →
    step s = .next { s with
      host.requests := more
      host.responses := s.host.responses ++ [⟨.configError, .absent⟩] })

/-- R191: which status each operation can answer with, and that the two error statuses without payload carry
none; an operation gives at most one response. -/
def Obligations.StatusesOfEachOperation : Prop :=
  ∀ (i : Instr) (s t : State), exec i s = .next t →
    t.host.responses = s.host.responses ∨
    ∃ r, t.host.responses = s.host.responses ++ [r] ∧ mayReturn i r.st = true ∧
      (r.st = .configError ∨ r.st = .retryExhausted → r.payload = .absent)

/-- R194: at an adapter that stops `k` waiting moments on, with no reset coming, a well-formed operation that
needs more of them never ends: the step is the fault, which holds its run, the bus trace cut at the call that does
not return and no response of it; one that needs no more ends as it would. The same of a retry of a sample. The
fault that stands for the hang, and the moments, are the model's choice (log 11). -/
def Obligations.HungAdapterStopsBusOperations : Prop :=
  (∀ (i : Instr) (s : State) (k : Nat), s.host.active = none → fetch s = some (.ok i) → ¬ malformed i s →
    s.bus.hangIn = some k → s.bus.resetIn = none →
    ∃ t, step { s with bus.hangIn := none } = .next t ∧
      if k < waitMoments i then
        ∃ run, step s = .fault (.transportHang run) ∧ IsCutAt BusEvent.waits k s t run
      else step s = .next { t with bus.hangIn := some (k - waitMoments i) }) ∧
  (∀ (a : Sample) (s : State) (k : Nat), s.host.active = some a → 1 ≤ a.n → a.n ≤ 16 →
    s.bus.hangIn = some k → s.bus.resetIn = none →
    ∃ t, step { s with bus.hangIn := none } = .next t ∧
      if k < attemptWaits a then
        ∃ run, step s = .fault (.transportHang run) ∧ IsCutAt BusEvent.waits k s t run
      else step s = .next { t with bus.hangIn := some (k - attemptWaits a) })

/-- A step faults only at a hung adapter that no reset ends, and no step is refused: whatever the request, the
operands and the chain's answers. -/
def Obligations.OnlyAHungAdapterStops : Prop :=
  ∀ s : State, (∃ t, step s = .next t) ∨
    ((∃ run, step s = .fault (.transportHang run)) ∧ s.bus.hangIn ≠ none ∧ s.bus.resetIn = none)

/-- R220: CFG_VALID, PEC_ERR, the bus, the trace and the constant TABLE after reset. -/
def Obligations.ResetValues : Prop :=
  afterReset State.reset ∧ State.reset.par.table = Config.table

/-- R220, R221: a reset that is due leaves the reset state whatever PECF was doing; the parameters are
unaffected, and the run it ends is recorded, trace and responses. That a reset is scheduled in the state, and the
record of ended runs, are the model's choice (log 12, log 21). -/
def Obligations.ResetFromAnyState : Prop :=
  ∀ s : State, s.bus.resetIn = some 0 → ∃ t, step s = .next t ∧ afterReset t ∧ t.par = s.par ∧
    t.past = s.past ++ [⟨s.bus.trace, [], [], s.host.responses⟩]

/-- R221: a reset that falls inside an operation ends it: the state is the reset state, its response is never
delivered, and the run recorded ends wherever it was: `k - 1` moments after the operation was taken up, inside an
exchange too. It may fall inside any instruction (`k = 1`), inside the rejection of a request that is none, and
inside a retry of a sample. That the reset is scheduled in moments is the model's choice (log 12). -/
def Obligations.ResetInsideAnOperation : Prop :=
  (∀ (i : Instr) (s : State) (k : Nat), s.host.active = none → fetch s = some (.ok i) →
    s.bus.hangIn = none → s.bus.resetIn = some k → 0 < k →
    (k = 1 ∨ (¬ malformed i s ∧ k < busMoments i + 2)) →
    ∃ t u run, step { s with bus.resetIn := none } = .next u ∧ step s = .next t ∧ afterReset t ∧
      t.par = s.par ∧ t.past = s.past ++ [run] ∧ IsCutAt BusEvent.moments (k - 1) s u run) ∧
  (∀ (e : DecodeError) (s : State), s.host.active = none → fetch s = some (.error e) →
    s.bus.resetIn = some 1 →
    ∃ t, step s = .next t ∧ afterReset t ∧ t.par = s.par ∧
      t.past = s.past ++ [⟨s.bus.trace, [], [], s.host.responses⟩]) ∧
  (∀ (a : Sample) (s : State) (k : Nat), s.host.active = some a → 1 ≤ a.n → a.n ≤ 16 →
    s.bus.hangIn = none → s.bus.resetIn = some k → 0 < k → k < attemptMoments a + 2 →
    ∃ t u run, step { s with bus.resetIn := none } = .next u ∧ step s = .next t ∧ afterReset t ∧
      t.par = s.par ∧ t.past = s.past ++ [run] ∧ IsCutAt BusEvent.moments (k - 1) s u run)

/-- A reset that falls `k` moments on, after the outcome of an operation or of a retry was delivered, leaves that
outcome as it is and is the nearer by the moments used: due at once when none are left. The moments are the
model's choice (log 12). -/
def Obligations.ResetAfterAnOperation : Prop :=
  (∀ (i : Instr) (s : State) (k : Nat), s.host.active = none → fetch s = some (.ok i) → ¬ malformed i s →
    s.bus.hangIn = none → s.bus.resetIn = some k → busMoments i + 2 ≤ k →
    ∃ t, step { s with bus.resetIn := none } = .next t ∧
      step s = .next { t with bus.resetIn := some (k - (busMoments i + 2)) }) ∧
  (∀ (a : Sample) (s : State) (k : Nat), s.host.active = some a → 1 ≤ a.n → a.n ≤ 16 →
    s.bus.hangIn = none → s.bus.resetIn = some k → attemptMoments a + 2 ≤ k →
    ∃ t, step { s with bus.resetIn := none } = .next t ∧
      step s = .next { t with bus.resetIn := some (k - (attemptMoments a + 2)) })

/-- R221: reset is what ends an operation that hangs: with a reset coming, however late, an operation that the
adapter stops leaves the reset state, without its response, and its run is recorded; when the reset comes later than
the operation would have lasted, that run is cut where the adapter stopped. Both deadlines are the model's
choice (log 11, log 12). -/
def Obligations.ResetEndsAHang : Prop :=
  ∀ (i : Instr) (s : State) (h k : Nat), s.host.active = none → fetch s = some (.ok i) → ¬ malformed i s →
    s.bus.hangIn = some h → h < waitMoments i → s.bus.resetIn = some k → 0 < k →
    ∃ t u run, step { s with bus.hangIn := none, bus.resetIn := none } = .next u ∧ step s = .next t ∧
      afterReset t ∧ t.par = s.par ∧ t.past = s.past ++ [run] ∧
      run.responses = s.host.responses ∧ s.bus.trace <+: run.trace ∧ run.trace <+: u.bus.trace ∧
      (busMoments i + 2 ≤ k → IsCutAt BusEvent.waits h s u run)

/-! ### Rules of the whole machine -/

/-- R155: the number of transport events an operation adds to the trace is fixed by its operands: four for each
of its transactions (RDCV 4 or 1, RDAUX 2 or 1, RDCFG, WRCFG and the four commands 1, every other operation but the
samples 0), none when it is malformed. -/
def Obligations.TransactionCounts : Prop :=
  ∀ (i : Instr) (s t : State), exec i s = .next t →
    (¬ malformed i s → (∀ b n m, i ≠ sampleInstr b n m) →
      t.bus.trace.length = s.bus.trace.length + 4 * transactions i) ∧
    (malformed i s → t.bus.trace = s.bus.trace)

/-- R231: only a successful CONFIGURE and reset write the conversion configuration: no other operation, no retry
of a sample, no error, a rejected CONFIGURE among them. -/
def Obligations.ConfigurationIsSticky : Prop :=
  (∀ (i : Instr) (s t : State), exec i s = .next t →
    ((∀ mode dcp ch chg, i ≠ .configure mode dcp ch chg) ∨ malformed i s) →
    t.regs.md = s.regs.md ∧ t.regs.dcp = s.regs.dcp ∧ t.regs.ch = s.regs.ch ∧ t.regs.chg = s.regs.chg ∧
    t.regs.cfgValid = s.regs.cfgValid) ∧
  (∀ (a : Sample) (s t : State), s.bus.resetIn = none → s.host.active = some a → step s = .next t →
    t.regs.md = s.regs.md ∧ t.regs.dcp = s.regs.dcp ∧ t.regs.ch = s.regs.ch ∧ t.regs.chg = s.regs.chg ∧
    t.regs.cfgValid = s.regs.cfgValid)

/-- R18: the operations that do not read from the chain leave PEC_ERR as it is. -/
def Obligations.OnlyReadsWritePecErr : Prop :=
  ∀ (i : Instr) (s t : State), exec i s = .next t →
    (∀ b g n, i ≠ readInstr b g n) → (∀ n, i ≠ .rdcfg n) → (∀ b n m, i ≠ sampleInstr b n m) →
    t.regs.pecErr = s.regs.pecErr

/-- R10, R19 to R23: CELL is written by RDCV and SAMPLEV only, AUX by RDAUX and SAMPLEAUX only, CFGRX by RDCFG
only, ORCH and RETRIES by the samples only; and a retry of a sample writes the array of its own bank only. -/
def Obligations.WritersOfResultsAndSequencer : Prop :=
  (∀ (i : Instr) (s t : State), exec i s = .next t →
    ((∀ g n, i ≠ .rdcv g n) → (∀ n m, i ≠ .samplev n m) → t.regs.cell = s.regs.cell) ∧
    ((∀ g n, i ≠ .rdaux g n) → (∀ n m, i ≠ .sampleaux n m) → t.regs.aux = s.regs.aux) ∧
    ((∀ n, i ≠ .rdcfg n) → t.regs.cfgrx = s.regs.cfgrx) ∧
    ((∀ b n m, i ≠ sampleInstr b n m) → t.regs.orch = s.regs.orch ∧ t.regs.retries = s.regs.retries)) ∧
  (∀ (a : Sample) (s t : State), s.bus.resetIn = none → s.host.active = some a → step s = .next t →
    (a.bank = .aux → t.regs.cell = s.regs.cell) ∧ (a.bank = .cell → t.regs.aux = s.regs.aux) ∧
    t.regs.cfgrx = s.regs.cfgrx)

/-- R11, R26: no step writes a parameter, the table among them. -/
def Obligations.ParametersAreConstant : Prop :=
  ∀ s t : State, step s = .next t → t.par = s.par

/-- R145: the response of a read is decided by the parameters and the bytes the chain returns: two states that
agree on those answer alike, whatever their registers and history. -/
def Obligations.ReadResponseDependsOnBytesOnly : Prop :=
  ∀ (b : Bank) (g n : Nat) (s1 s2 t1 t2 : State), s1.par = s2.par →
    (∀ i, s1.bus.byteAt i = s2.bus.byteAt i) →
    exec (readInstr b g n) s1 = .next t1 → exec (readInstr b g n) s2 = .next t2 →
    ∃ r, t1.host.responses = s1.host.responses ++ [r] ∧ t2.host.responses = s2.host.responses ++ [r]

/-- The invariant holds after reset. -/
def Obligations.InvariantAtReset : Prop := StateInv State.reset

/-- R51, R77, R13, R23: every step, from every state with the invariant, keeps it: between steps no transaction
is open, the trace is whole transactions, each sends a sendable frame with its PEC and at most 16 blocks, a
written configuration holds a mode, a sample in progress is legal and within its bound. -/
def Obligations.InvariantKeptByEveryStep : Prop :=
  ∀ s t : State, StateInv s → step s = .next t → StateInv t

/-! ### Decoding and the step -/

/-- Decoding the encoding of a well-formed instruction gives it back, for every operand value. The operand
bytes of the host format are the model's choice (log 13). -/
def Obligations.DecodeInvertsEncode : Prop :=
  ∀ i : Instr, i.wellFormed = true → decode i.port (encode i) = .ok i

/-- R66 to R68: a 16-bit word that decodes is exactly the word its instruction encodes to, so no word is read
as another row's and no field bit is dropped. -/
def Obligations.EachWordHasOneInstruction : Prop :=
  ∀ (w : Code) (i : Instr), decodeWord w = .ok i → encode i = [highByte w, lowByte w]

/-- A few words of the opcode table decode to their rows. -/
def Obligations.TableWordsDecode : Prop :=
  decodeTableWord 8 0x00 = some (.peccomp []) ∧ decodeTableWord 8 0x04 = some (.rdaux 0 0) ∧
  decodeTableWord 8 0x09 = some .adcv ∧ decodeTableWord 8 0x0D = none ∧
  decodeTableWord 16 0x02F7 = some (.encAdcv 1 1 7) ∧ decodeTableWord 16 0x04E6 = some (.encAdax 1 6) ∧
  decodeTableWord 16 0x000A = some .encRdcvd ∧ decodeTableWord 16 0x0712 = some .encClraux

/-- When no reset is due, no sample is in progress and the bytes presented decode to an instruction, the step
takes them off their port and is that instruction, cut short by `settle` where a reset or an adapter that stops
falls into it; with a reliable environment it is the instruction's `exec`. That requests stand in a queue (log 15)
and that an encoder call is presented at a port of its own (log 16) are the model's choices. -/
def Obligations.StepRunsTheDecodedInstruction : Prop :=
  ∀ (s : State) (p : Port) (bytes : List Byte) (i : Instr),
    s.bus.resetIn ≠ some 0 → s.host.active = none → fetchBytes s = some (p, bytes) → decode p bytes = .ok i →
    let s' := if p = .wire then { s with host.encSel := none }
      else { s with host.requests := s.host.requests.tail }
    step s = settleOutcome s' (exec i s') ∧ (Reliable s → step s = exec i s')

/-- With no reset due, no sample in progress and no instruction presented, a step changes nothing, but for the
moment that brings a reset nearer (the model's choice, log 15). -/
def Obligations.IdleStepChangesNothing : Prop :=
  ∀ s : State, s.host.active = none → s.host.encSel = none → s.host.requests = [] →
    (s.bus.resetIn = none → step s = .next s) ∧
    (∀ k, s.bus.resetIn = some (k + 1) → step s = .next { s with bus.resetIn := some k })

/-- A word of the opcode table placed by `withFetchWord` is what the next step fetches, with every field it
holds. -/
def Obligations.PlacedWordIsFetched : Prop :=
  ∀ (s : State) (nbits w : Nat) (i : Instr), decodeTableWord nbits w = some i →
    fetch (s.withFetchWord nbits w) = some (.ok i) ∧
    (s.withFetchWord nbits w).host.active = none ∧ Reliable (s.withFetchWord nbits w)
end

