-- ==== Sys2Proof/Laws/State.lean ====
section
/-! SUPPORT. Sys2Proof/Laws/State.lean: what each named update of the state leaves in each field, one lemma for each
field and update, so that no proof unfolds a record update. -/

namespace Sys2Proof.Machine

variable (s : State)

/-! ### `State.setRem` -/

@[simp] theorem State.setRem_regs_rem (v : BitVec 16) : (s.setRem v).regs.rem = v := rfl
@[simp] theorem State.setRem_regs_md (v : BitVec 16) : (s.setRem v).regs.md = s.regs.md := rfl
@[simp] theorem State.setRem_regs_dcp (v : BitVec 16) : (s.setRem v).regs.dcp = s.regs.dcp := rfl
@[simp] theorem State.setRem_regs_ch (v : BitVec 16) : (s.setRem v).regs.ch = s.regs.ch := rfl
@[simp] theorem State.setRem_regs_chg (v : BitVec 16) : (s.setRem v).regs.chg = s.regs.chg := rfl
@[simp] theorem State.setRem_regs_cfgValid (v : BitVec 16) :
    (s.setRem v).regs.cfgValid = s.regs.cfgValid := rfl
@[simp] theorem State.setRem_regs_pecErr (v : BitVec 16) : (s.setRem v).regs.pecErr = s.regs.pecErr := rfl
@[simp] theorem State.setRem_regs_cell (v : BitVec 16) : (s.setRem v).regs.cell = s.regs.cell := rfl
@[simp] theorem State.setRem_regs_aux (v : BitVec 16) : (s.setRem v).regs.aux = s.regs.aux := rfl
@[simp] theorem State.setRem_regs_cfgrx (v : BitVec 16) : (s.setRem v).regs.cfgrx = s.regs.cfgrx := rfl
@[simp] theorem State.setRem_regs_orch (v : BitVec 16) : (s.setRem v).regs.orch = s.regs.orch := rfl
@[simp] theorem State.setRem_regs_retries (v : BitVec 16) : (s.setRem v).regs.retries = s.regs.retries := rfl
@[simp] theorem State.setRem_regs_txbuf (v : BitVec 16) : (s.setRem v).regs.txbuf = s.regs.txbuf := rfl
@[simp] theorem State.setRem_regs_txlen (v : BitVec 16) : (s.setRem v).regs.txlen = s.regs.txlen := rfl
@[simp] theorem State.setRem_regs_rxbuf (v : BitVec 16) : (s.setRem v).regs.rxbuf = s.regs.rxbuf := rfl
@[simp] theorem State.setRem_regs_rxlen (v : BitVec 16) : (s.setRem v).regs.rxlen = s.regs.rxlen := rfl
@[simp] theorem State.setRem_host (v : BitVec 16) : (s.setRem v).host = s.host := rfl
@[simp] theorem State.setRem_bus (v : BitVec 16) : (s.setRem v).bus = s.bus := rfl
@[simp] theorem State.setRem_past (v : BitVec 16) : (s.setRem v).past = s.past := rfl
@[simp] theorem State.setRem_par (v : BitVec 16) : (s.setRem v).par = s.par := rfl

/-! ### `State.setPecErr` -/

@[simp] theorem State.setPecErr_regs_rem (v : Bool) : (s.setPecErr v).regs.rem = s.regs.rem := rfl
@[simp] theorem State.setPecErr_regs_md (v : Bool) : (s.setPecErr v).regs.md = s.regs.md := rfl
@[simp] theorem State.setPecErr_regs_dcp (v : Bool) : (s.setPecErr v).regs.dcp = s.regs.dcp := rfl
@[simp] theorem State.setPecErr_regs_ch (v : Bool) : (s.setPecErr v).regs.ch = s.regs.ch := rfl
@[simp] theorem State.setPecErr_regs_chg (v : Bool) : (s.setPecErr v).regs.chg = s.regs.chg := rfl
@[simp] theorem State.setPecErr_regs_cfgValid (v : Bool) :
    (s.setPecErr v).regs.cfgValid = s.regs.cfgValid := rfl
@[simp] theorem State.setPecErr_regs_pecErr (v : Bool) : (s.setPecErr v).regs.pecErr = v := rfl
@[simp] theorem State.setPecErr_regs_cell (v : Bool) : (s.setPecErr v).regs.cell = s.regs.cell := rfl
@[simp] theorem State.setPecErr_regs_aux (v : Bool) : (s.setPecErr v).regs.aux = s.regs.aux := rfl
@[simp] theorem State.setPecErr_regs_cfgrx (v : Bool) : (s.setPecErr v).regs.cfgrx = s.regs.cfgrx := rfl
@[simp] theorem State.setPecErr_regs_orch (v : Bool) : (s.setPecErr v).regs.orch = s.regs.orch := rfl
@[simp] theorem State.setPecErr_regs_retries (v : Bool) : (s.setPecErr v).regs.retries = s.regs.retries := rfl
@[simp] theorem State.setPecErr_regs_txbuf (v : Bool) : (s.setPecErr v).regs.txbuf = s.regs.txbuf := rfl
@[simp] theorem State.setPecErr_regs_txlen (v : Bool) : (s.setPecErr v).regs.txlen = s.regs.txlen := rfl
@[simp] theorem State.setPecErr_regs_rxbuf (v : Bool) : (s.setPecErr v).regs.rxbuf = s.regs.rxbuf := rfl
@[simp] theorem State.setPecErr_regs_rxlen (v : Bool) : (s.setPecErr v).regs.rxlen = s.regs.rxlen := rfl
@[simp] theorem State.setPecErr_host (v : Bool) : (s.setPecErr v).host = s.host := rfl
@[simp] theorem State.setPecErr_bus (v : Bool) : (s.setPecErr v).bus = s.bus := rfl
@[simp] theorem State.setPecErr_past (v : Bool) : (s.setPecErr v).past = s.past := rfl
@[simp] theorem State.setPecErr_par (v : Bool) : (s.setPecErr v).par = s.par := rfl

/-! ### `State.setOrch` -/

@[simp] theorem State.setOrch_regs_rem (v : Orch) : (s.setOrch v).regs.rem = s.regs.rem := rfl
@[simp] theorem State.setOrch_regs_md (v : Orch) : (s.setOrch v).regs.md = s.regs.md := rfl
@[simp] theorem State.setOrch_regs_dcp (v : Orch) : (s.setOrch v).regs.dcp = s.regs.dcp := rfl
@[simp] theorem State.setOrch_regs_ch (v : Orch) : (s.setOrch v).regs.ch = s.regs.ch := rfl
@[simp] theorem State.setOrch_regs_chg (v : Orch) : (s.setOrch v).regs.chg = s.regs.chg := rfl
@[simp] theorem State.setOrch_regs_cfgValid (v : Orch) : (s.setOrch v).regs.cfgValid = s.regs.cfgValid := rfl
@[simp] theorem State.setOrch_regs_pecErr (v : Orch) : (s.setOrch v).regs.pecErr = s.regs.pecErr := rfl
@[simp] theorem State.setOrch_regs_cell (v : Orch) : (s.setOrch v).regs.cell = s.regs.cell := rfl
@[simp] theorem State.setOrch_regs_aux (v : Orch) : (s.setOrch v).regs.aux = s.regs.aux := rfl
@[simp] theorem State.setOrch_regs_cfgrx (v : Orch) : (s.setOrch v).regs.cfgrx = s.regs.cfgrx := rfl
@[simp] theorem State.setOrch_regs_orch (v : Orch) : (s.setOrch v).regs.orch = v := rfl
@[simp] theorem State.setOrch_regs_retries (v : Orch) : (s.setOrch v).regs.retries = s.regs.retries := rfl
@[simp] theorem State.setOrch_regs_txbuf (v : Orch) : (s.setOrch v).regs.txbuf = s.regs.txbuf := rfl
@[simp] theorem State.setOrch_regs_txlen (v : Orch) : (s.setOrch v).regs.txlen = s.regs.txlen := rfl
@[simp] theorem State.setOrch_regs_rxbuf (v : Orch) : (s.setOrch v).regs.rxbuf = s.regs.rxbuf := rfl
@[simp] theorem State.setOrch_regs_rxlen (v : Orch) : (s.setOrch v).regs.rxlen = s.regs.rxlen := rfl
@[simp] theorem State.setOrch_host (v : Orch) : (s.setOrch v).host = s.host := rfl
@[simp] theorem State.setOrch_bus (v : Orch) : (s.setOrch v).bus = s.bus := rfl
@[simp] theorem State.setOrch_past (v : Orch) : (s.setOrch v).past = s.past := rfl
@[simp] theorem State.setOrch_par (v : Orch) : (s.setOrch v).par = s.par := rfl

/-! ### `State.setRetries` -/

@[simp] theorem State.setRetries_regs_rem (v : BitVec 16) : (s.setRetries v).regs.rem = s.regs.rem := rfl
@[simp] theorem State.setRetries_regs_md (v : BitVec 16) : (s.setRetries v).regs.md = s.regs.md := rfl
@[simp] theorem State.setRetries_regs_dcp (v : BitVec 16) : (s.setRetries v).regs.dcp = s.regs.dcp := rfl
@[simp] theorem State.setRetries_regs_ch (v : BitVec 16) : (s.setRetries v).regs.ch = s.regs.ch := rfl
@[simp] theorem State.setRetries_regs_chg (v : BitVec 16) : (s.setRetries v).regs.chg = s.regs.chg := rfl
@[simp] theorem State.setRetries_regs_cfgValid (v : BitVec 16) :
    (s.setRetries v).regs.cfgValid = s.regs.cfgValid := rfl
@[simp] theorem State.setRetries_regs_pecErr (v : BitVec 16) :
    (s.setRetries v).regs.pecErr = s.regs.pecErr := rfl
@[simp] theorem State.setRetries_regs_cell (v : BitVec 16) : (s.setRetries v).regs.cell = s.regs.cell := rfl
@[simp] theorem State.setRetries_regs_aux (v : BitVec 16) : (s.setRetries v).regs.aux = s.regs.aux := rfl
@[simp] theorem State.setRetries_regs_cfgrx (v : BitVec 16) :
    (s.setRetries v).regs.cfgrx = s.regs.cfgrx := rfl
@[simp] theorem State.setRetries_regs_orch (v : BitVec 16) : (s.setRetries v).regs.orch = s.regs.orch := rfl
@[simp] theorem State.setRetries_regs_retries (v : BitVec 16) : (s.setRetries v).regs.retries = v := rfl
@[simp] theorem State.setRetries_regs_txbuf (v : BitVec 16) :
    (s.setRetries v).regs.txbuf = s.regs.txbuf := rfl
@[simp] theorem State.setRetries_regs_txlen (v : BitVec 16) :
    (s.setRetries v).regs.txlen = s.regs.txlen := rfl
@[simp] theorem State.setRetries_regs_rxbuf (v : BitVec 16) :
    (s.setRetries v).regs.rxbuf = s.regs.rxbuf := rfl
@[simp] theorem State.setRetries_regs_rxlen (v : BitVec 16) :
    (s.setRetries v).regs.rxlen = s.regs.rxlen := rfl
@[simp] theorem State.setRetries_host (v : BitVec 16) : (s.setRetries v).host = s.host := rfl
@[simp] theorem State.setRetries_bus (v : BitVec 16) : (s.setRetries v).bus = s.bus := rfl
@[simp] theorem State.setRetries_past (v : BitVec 16) : (s.setRetries v).past = s.past := rfl
@[simp] theorem State.setRetries_par (v : BitVec 16) : (s.setRetries v).par = s.par := rfl

/-! ### `State.setConfig` -/

@[simp] theorem State.setConfig_regs_rem (md : BitVec 2) (dcp : BitVec 1) (ch chg : BitVec 3) :
    (s.setConfig md dcp ch chg).regs.rem = s.regs.rem := rfl
@[simp] theorem State.setConfig_regs_md (md : BitVec 2) (dcp : BitVec 1) (ch chg : BitVec 3) :
    (s.setConfig md dcp ch chg).regs.md = md := rfl
@[simp] theorem State.setConfig_regs_dcp (md : BitVec 2) (dcp : BitVec 1) (ch chg : BitVec 3) :
    (s.setConfig md dcp ch chg).regs.dcp = dcp := rfl
@[simp] theorem State.setConfig_regs_ch (md : BitVec 2) (dcp : BitVec 1) (ch chg : BitVec 3) :
    (s.setConfig md dcp ch chg).regs.ch = ch := rfl
@[simp] theorem State.setConfig_regs_chg (md : BitVec 2) (dcp : BitVec 1) (ch chg : BitVec 3) :
    (s.setConfig md dcp ch chg).regs.chg = chg := rfl
@[simp] theorem State.setConfig_regs_cfgValid (md : BitVec 2) (dcp : BitVec 1) (ch chg : BitVec 3) :
    (s.setConfig md dcp ch chg).regs.cfgValid = true := rfl
@[simp] theorem State.setConfig_regs_pecErr (md : BitVec 2) (dcp : BitVec 1) (ch chg : BitVec 3) :
    (s.setConfig md dcp ch chg).regs.pecErr = s.regs.pecErr := rfl
@[simp] theorem State.setConfig_regs_cell (md : BitVec 2) (dcp : BitVec 1) (ch chg : BitVec 3) :
    (s.setConfig md dcp ch chg).regs.cell = s.regs.cell := rfl
@[simp] theorem State.setConfig_regs_aux (md : BitVec 2) (dcp : BitVec 1) (ch chg : BitVec 3) :
    (s.setConfig md dcp ch chg).regs.aux = s.regs.aux := rfl
@[simp] theorem State.setConfig_regs_cfgrx (md : BitVec 2) (dcp : BitVec 1) (ch chg : BitVec 3) :
    (s.setConfig md dcp ch chg).regs.cfgrx = s.regs.cfgrx := rfl
@[simp] theorem State.setConfig_regs_orch (md : BitVec 2) (dcp : BitVec 1) (ch chg : BitVec 3) :
    (s.setConfig md dcp ch chg).regs.orch = s.regs.orch := rfl
@[simp] theorem State.setConfig_regs_retries (md : BitVec 2) (dcp : BitVec 1) (ch chg : BitVec 3) :
    (s.setConfig md dcp ch chg).regs.retries = s.regs.retries := rfl
@[simp] theorem State.setConfig_regs_txbuf (md : BitVec 2) (dcp : BitVec 1) (ch chg : BitVec 3) :
    (s.setConfig md dcp ch chg).regs.txbuf = s.regs.txbuf := rfl
@[simp] theorem State.setConfig_regs_txlen (md : BitVec 2) (dcp : BitVec 1) (ch chg : BitVec 3) :
    (s.setConfig md dcp ch chg).regs.txlen = s.regs.txlen := rfl
@[simp] theorem State.setConfig_regs_rxbuf (md : BitVec 2) (dcp : BitVec 1) (ch chg : BitVec 3) :
    (s.setConfig md dcp ch chg).regs.rxbuf = s.regs.rxbuf := rfl
@[simp] theorem State.setConfig_regs_rxlen (md : BitVec 2) (dcp : BitVec 1) (ch chg : BitVec 3) :
    (s.setConfig md dcp ch chg).regs.rxlen = s.regs.rxlen := rfl
@[simp] theorem State.setConfig_host (md : BitVec 2) (dcp : BitVec 1) (ch chg : BitVec 3) :
    (s.setConfig md dcp ch chg).host = s.host := rfl
@[simp] theorem State.setConfig_bus (md : BitVec 2) (dcp : BitVec 1) (ch chg : BitVec 3) :
    (s.setConfig md dcp ch chg).bus = s.bus := rfl
@[simp] theorem State.setConfig_past (md : BitVec 2) (dcp : BitVec 1) (ch chg : BitVec 3) :
    (s.setConfig md dcp ch chg).past = s.past := rfl
@[simp] theorem State.setConfig_par (md : BitVec 2) (dcp : BitVec 1) (ch chg : BitVec 3) :
    (s.setConfig md dcp ch chg).par = s.par := rfl

/-! ### `State.setCell` -/

@[simp] theorem State.setCell_regs_rem (v : Vector (Vector Code 12) 16) :
    (s.setCell v).regs.rem = s.regs.rem := rfl
@[simp] theorem State.setCell_regs_md (v : Vector (Vector Code 12) 16) :
    (s.setCell v).regs.md = s.regs.md := rfl
@[simp] theorem State.setCell_regs_dcp (v : Vector (Vector Code 12) 16) :
    (s.setCell v).regs.dcp = s.regs.dcp := rfl
@[simp] theorem State.setCell_regs_ch (v : Vector (Vector Code 12) 16) :
    (s.setCell v).regs.ch = s.regs.ch := rfl
@[simp] theorem State.setCell_regs_chg (v : Vector (Vector Code 12) 16) :
    (s.setCell v).regs.chg = s.regs.chg := rfl
@[simp] theorem State.setCell_regs_cfgValid (v : Vector (Vector Code 12) 16) :
    (s.setCell v).regs.cfgValid = s.regs.cfgValid := rfl
@[simp] theorem State.setCell_regs_pecErr (v : Vector (Vector Code 12) 16) :
    (s.setCell v).regs.pecErr = s.regs.pecErr := rfl
@[simp] theorem State.setCell_regs_cell (v : Vector (Vector Code 12) 16) : (s.setCell v).regs.cell = v := rfl
@[simp] theorem State.setCell_regs_aux (v : Vector (Vector Code 12) 16) :
    (s.setCell v).regs.aux = s.regs.aux := rfl
@[simp] theorem State.setCell_regs_cfgrx (v : Vector (Vector Code 12) 16) :
    (s.setCell v).regs.cfgrx = s.regs.cfgrx := rfl
@[simp] theorem State.setCell_regs_orch (v : Vector (Vector Code 12) 16) :
    (s.setCell v).regs.orch = s.regs.orch := rfl
@[simp] theorem State.setCell_regs_retries (v : Vector (Vector Code 12) 16) :
    (s.setCell v).regs.retries = s.regs.retries := rfl
@[simp] theorem State.setCell_regs_txbuf (v : Vector (Vector Code 12) 16) :
    (s.setCell v).regs.txbuf = s.regs.txbuf := rfl
@[simp] theorem State.setCell_regs_txlen (v : Vector (Vector Code 12) 16) :
    (s.setCell v).regs.txlen = s.regs.txlen := rfl
@[simp] theorem State.setCell_regs_rxbuf (v : Vector (Vector Code 12) 16) :
    (s.setCell v).regs.rxbuf = s.regs.rxbuf := rfl
@[simp] theorem State.setCell_regs_rxlen (v : Vector (Vector Code 12) 16) :
    (s.setCell v).regs.rxlen = s.regs.rxlen := rfl
@[simp] theorem State.setCell_host (v : Vector (Vector Code 12) 16) : (s.setCell v).host = s.host := rfl
@[simp] theorem State.setCell_bus (v : Vector (Vector Code 12) 16) : (s.setCell v).bus = s.bus := rfl
@[simp] theorem State.setCell_past (v : Vector (Vector Code 12) 16) : (s.setCell v).past = s.past := rfl
@[simp] theorem State.setCell_par (v : Vector (Vector Code 12) 16) : (s.setCell v).par = s.par := rfl

/-! ### `State.setAux` -/

@[simp] theorem State.setAux_regs_rem (v : Vector (Vector Code 6) 16) :
    (s.setAux v).regs.rem = s.regs.rem := rfl
@[simp] theorem State.setAux_regs_md (v : Vector (Vector Code 6) 16) : (s.setAux v).regs.md = s.regs.md := rfl
@[simp] theorem State.setAux_regs_dcp (v : Vector (Vector Code 6) 16) :
    (s.setAux v).regs.dcp = s.regs.dcp := rfl
@[simp] theorem State.setAux_regs_ch (v : Vector (Vector Code 6) 16) : (s.setAux v).regs.ch = s.regs.ch := rfl
@[simp] theorem State.setAux_regs_chg (v : Vector (Vector Code 6) 16) :
    (s.setAux v).regs.chg = s.regs.chg := rfl
@[simp] theorem State.setAux_regs_cfgValid (v : Vector (Vector Code 6) 16) :
    (s.setAux v).regs.cfgValid = s.regs.cfgValid := rfl
@[simp] theorem State.setAux_regs_pecErr (v : Vector (Vector Code 6) 16) :
    (s.setAux v).regs.pecErr = s.regs.pecErr := rfl
@[simp] theorem State.setAux_regs_cell (v : Vector (Vector Code 6) 16) :
    (s.setAux v).regs.cell = s.regs.cell := rfl
@[simp] theorem State.setAux_regs_aux (v : Vector (Vector Code 6) 16) : (s.setAux v).regs.aux = v := rfl
@[simp] theorem State.setAux_regs_cfgrx (v : Vector (Vector Code 6) 16) :
    (s.setAux v).regs.cfgrx = s.regs.cfgrx := rfl
@[simp] theorem State.setAux_regs_orch (v : Vector (Vector Code 6) 16) :
    (s.setAux v).regs.orch = s.regs.orch := rfl
@[simp] theorem State.setAux_regs_retries (v : Vector (Vector Code 6) 16) :
    (s.setAux v).regs.retries = s.regs.retries := rfl
@[simp] theorem State.setAux_regs_txbuf (v : Vector (Vector Code 6) 16) :
    (s.setAux v).regs.txbuf = s.regs.txbuf := rfl
@[simp] theorem State.setAux_regs_txlen (v : Vector (Vector Code 6) 16) :
    (s.setAux v).regs.txlen = s.regs.txlen := rfl
@[simp] theorem State.setAux_regs_rxbuf (v : Vector (Vector Code 6) 16) :
    (s.setAux v).regs.rxbuf = s.regs.rxbuf := rfl
@[simp] theorem State.setAux_regs_rxlen (v : Vector (Vector Code 6) 16) :
    (s.setAux v).regs.rxlen = s.regs.rxlen := rfl
@[simp] theorem State.setAux_host (v : Vector (Vector Code 6) 16) : (s.setAux v).host = s.host := rfl
@[simp] theorem State.setAux_bus (v : Vector (Vector Code 6) 16) : (s.setAux v).bus = s.bus := rfl
@[simp] theorem State.setAux_past (v : Vector (Vector Code 6) 16) : (s.setAux v).past = s.past := rfl
@[simp] theorem State.setAux_par (v : Vector (Vector Code 6) 16) : (s.setAux v).par = s.par := rfl

/-! ### `State.setCfgrx` -/

@[simp] theorem State.setCfgrx_regs_rem (v : Vector (Vector Byte 8) 16) :
    (s.setCfgrx v).regs.rem = s.regs.rem := rfl
@[simp] theorem State.setCfgrx_regs_md (v : Vector (Vector Byte 8) 16) :
    (s.setCfgrx v).regs.md = s.regs.md := rfl
@[simp] theorem State.setCfgrx_regs_dcp (v : Vector (Vector Byte 8) 16) :
    (s.setCfgrx v).regs.dcp = s.regs.dcp := rfl
@[simp] theorem State.setCfgrx_regs_ch (v : Vector (Vector Byte 8) 16) :
    (s.setCfgrx v).regs.ch = s.regs.ch := rfl
@[simp] theorem State.setCfgrx_regs_chg (v : Vector (Vector Byte 8) 16) :
    (s.setCfgrx v).regs.chg = s.regs.chg := rfl
@[simp] theorem State.setCfgrx_regs_cfgValid (v : Vector (Vector Byte 8) 16) :
    (s.setCfgrx v).regs.cfgValid = s.regs.cfgValid := rfl
@[simp] theorem State.setCfgrx_regs_pecErr (v : Vector (Vector Byte 8) 16) :
    (s.setCfgrx v).regs.pecErr = s.regs.pecErr := rfl
@[simp] theorem State.setCfgrx_regs_cell (v : Vector (Vector Byte 8) 16) :
    (s.setCfgrx v).regs.cell = s.regs.cell := rfl
@[simp] theorem State.setCfgrx_regs_aux (v : Vector (Vector Byte 8) 16) :
    (s.setCfgrx v).regs.aux = s.regs.aux := rfl
@[simp] theorem State.setCfgrx_regs_cfgrx (v : Vector (Vector Byte 8) 16) :
    (s.setCfgrx v).regs.cfgrx = v := rfl
@[simp] theorem State.setCfgrx_regs_orch (v : Vector (Vector Byte 8) 16) :
    (s.setCfgrx v).regs.orch = s.regs.orch := rfl
@[simp] theorem State.setCfgrx_regs_retries (v : Vector (Vector Byte 8) 16) :
    (s.setCfgrx v).regs.retries = s.regs.retries := rfl
@[simp] theorem State.setCfgrx_regs_txbuf (v : Vector (Vector Byte 8) 16) :
    (s.setCfgrx v).regs.txbuf = s.regs.txbuf := rfl
@[simp] theorem State.setCfgrx_regs_txlen (v : Vector (Vector Byte 8) 16) :
    (s.setCfgrx v).regs.txlen = s.regs.txlen := rfl
@[simp] theorem State.setCfgrx_regs_rxbuf (v : Vector (Vector Byte 8) 16) :
    (s.setCfgrx v).regs.rxbuf = s.regs.rxbuf := rfl
@[simp] theorem State.setCfgrx_regs_rxlen (v : Vector (Vector Byte 8) 16) :
    (s.setCfgrx v).regs.rxlen = s.regs.rxlen := rfl
@[simp] theorem State.setCfgrx_host (v : Vector (Vector Byte 8) 16) : (s.setCfgrx v).host = s.host := rfl
@[simp] theorem State.setCfgrx_bus (v : Vector (Vector Byte 8) 16) : (s.setCfgrx v).bus = s.bus := rfl
@[simp] theorem State.setCfgrx_past (v : Vector (Vector Byte 8) 16) : (s.setCfgrx v).past = s.past := rfl
@[simp] theorem State.setCfgrx_par (v : Vector (Vector Byte 8) 16) : (s.setCfgrx v).par = s.par := rfl

/-! ### `State.setTxbuf` -/

@[simp] theorem State.setTxbuf_regs_rem (v : Vector Byte 132) : (s.setTxbuf v).regs.rem = s.regs.rem := rfl
@[simp] theorem State.setTxbuf_regs_md (v : Vector Byte 132) : (s.setTxbuf v).regs.md = s.regs.md := rfl
@[simp] theorem State.setTxbuf_regs_dcp (v : Vector Byte 132) : (s.setTxbuf v).regs.dcp = s.regs.dcp := rfl
@[simp] theorem State.setTxbuf_regs_ch (v : Vector Byte 132) : (s.setTxbuf v).regs.ch = s.regs.ch := rfl
@[simp] theorem State.setTxbuf_regs_chg (v : Vector Byte 132) : (s.setTxbuf v).regs.chg = s.regs.chg := rfl
@[simp] theorem State.setTxbuf_regs_cfgValid (v : Vector Byte 132) :
    (s.setTxbuf v).regs.cfgValid = s.regs.cfgValid := rfl
@[simp] theorem State.setTxbuf_regs_pecErr (v : Vector Byte 132) :
    (s.setTxbuf v).regs.pecErr = s.regs.pecErr := rfl
@[simp] theorem State.setTxbuf_regs_cell (v : Vector Byte 132) : (s.setTxbuf v).regs.cell = s.regs.cell := rfl
@[simp] theorem State.setTxbuf_regs_aux (v : Vector Byte 132) : (s.setTxbuf v).regs.aux = s.regs.aux := rfl
@[simp] theorem State.setTxbuf_regs_cfgrx (v : Vector Byte 132) :
    (s.setTxbuf v).regs.cfgrx = s.regs.cfgrx := rfl
@[simp] theorem State.setTxbuf_regs_orch (v : Vector Byte 132) : (s.setTxbuf v).regs.orch = s.regs.orch := rfl
@[simp] theorem State.setTxbuf_regs_retries (v : Vector Byte 132) :
    (s.setTxbuf v).regs.retries = s.regs.retries := rfl
@[simp] theorem State.setTxbuf_regs_txbuf (v : Vector Byte 132) : (s.setTxbuf v).regs.txbuf = v := rfl
@[simp] theorem State.setTxbuf_regs_txlen (v : Vector Byte 132) :
    (s.setTxbuf v).regs.txlen = s.regs.txlen := rfl
@[simp] theorem State.setTxbuf_regs_rxbuf (v : Vector Byte 132) :
    (s.setTxbuf v).regs.rxbuf = s.regs.rxbuf := rfl
@[simp] theorem State.setTxbuf_regs_rxlen (v : Vector Byte 132) :
    (s.setTxbuf v).regs.rxlen = s.regs.rxlen := rfl
@[simp] theorem State.setTxbuf_host (v : Vector Byte 132) : (s.setTxbuf v).host = s.host := rfl
@[simp] theorem State.setTxbuf_bus (v : Vector Byte 132) : (s.setTxbuf v).bus = s.bus := rfl
@[simp] theorem State.setTxbuf_past (v : Vector Byte 132) : (s.setTxbuf v).past = s.past := rfl
@[simp] theorem State.setTxbuf_par (v : Vector Byte 132) : (s.setTxbuf v).par = s.par := rfl

/-! ### `State.setTxlen` -/

@[simp] theorem State.setTxlen_regs_rem (v : BitVec 8) : (s.setTxlen v).regs.rem = s.regs.rem := rfl
@[simp] theorem State.setTxlen_regs_md (v : BitVec 8) : (s.setTxlen v).regs.md = s.regs.md := rfl
@[simp] theorem State.setTxlen_regs_dcp (v : BitVec 8) : (s.setTxlen v).regs.dcp = s.regs.dcp := rfl
@[simp] theorem State.setTxlen_regs_ch (v : BitVec 8) : (s.setTxlen v).regs.ch = s.regs.ch := rfl
@[simp] theorem State.setTxlen_regs_chg (v : BitVec 8) : (s.setTxlen v).regs.chg = s.regs.chg := rfl
@[simp] theorem State.setTxlen_regs_cfgValid (v : BitVec 8) :
    (s.setTxlen v).regs.cfgValid = s.regs.cfgValid := rfl
@[simp] theorem State.setTxlen_regs_pecErr (v : BitVec 8) : (s.setTxlen v).regs.pecErr = s.regs.pecErr := rfl
@[simp] theorem State.setTxlen_regs_cell (v : BitVec 8) : (s.setTxlen v).regs.cell = s.regs.cell := rfl
@[simp] theorem State.setTxlen_regs_aux (v : BitVec 8) : (s.setTxlen v).regs.aux = s.regs.aux := rfl
@[simp] theorem State.setTxlen_regs_cfgrx (v : BitVec 8) : (s.setTxlen v).regs.cfgrx = s.regs.cfgrx := rfl
@[simp] theorem State.setTxlen_regs_orch (v : BitVec 8) : (s.setTxlen v).regs.orch = s.regs.orch := rfl
@[simp] theorem State.setTxlen_regs_retries (v : BitVec 8) :
    (s.setTxlen v).regs.retries = s.regs.retries := rfl
@[simp] theorem State.setTxlen_regs_txbuf (v : BitVec 8) : (s.setTxlen v).regs.txbuf = s.regs.txbuf := rfl
@[simp] theorem State.setTxlen_regs_txlen (v : BitVec 8) : (s.setTxlen v).regs.txlen = v := rfl
@[simp] theorem State.setTxlen_regs_rxbuf (v : BitVec 8) : (s.setTxlen v).regs.rxbuf = s.regs.rxbuf := rfl
@[simp] theorem State.setTxlen_regs_rxlen (v : BitVec 8) : (s.setTxlen v).regs.rxlen = s.regs.rxlen := rfl
@[simp] theorem State.setTxlen_host (v : BitVec 8) : (s.setTxlen v).host = s.host := rfl
@[simp] theorem State.setTxlen_bus (v : BitVec 8) : (s.setTxlen v).bus = s.bus := rfl
@[simp] theorem State.setTxlen_past (v : BitVec 8) : (s.setTxlen v).past = s.past := rfl
@[simp] theorem State.setTxlen_par (v : BitVec 8) : (s.setTxlen v).par = s.par := rfl

/-! ### `State.setRx` -/

@[simp] theorem State.setRx_regs_rem (buf : Vector Byte 128) (len : BitVec 8) :
    (s.setRx buf len).regs.rem = s.regs.rem := rfl
@[simp] theorem State.setRx_regs_md (buf : Vector Byte 128) (len : BitVec 8) :
    (s.setRx buf len).regs.md = s.regs.md := rfl
@[simp] theorem State.setRx_regs_dcp (buf : Vector Byte 128) (len : BitVec 8) :
    (s.setRx buf len).regs.dcp = s.regs.dcp := rfl
@[simp] theorem State.setRx_regs_ch (buf : Vector Byte 128) (len : BitVec 8) :
    (s.setRx buf len).regs.ch = s.regs.ch := rfl
@[simp] theorem State.setRx_regs_chg (buf : Vector Byte 128) (len : BitVec 8) :
    (s.setRx buf len).regs.chg = s.regs.chg := rfl
@[simp] theorem State.setRx_regs_cfgValid (buf : Vector Byte 128) (len : BitVec 8) :
    (s.setRx buf len).regs.cfgValid = s.regs.cfgValid := rfl
@[simp] theorem State.setRx_regs_pecErr (buf : Vector Byte 128) (len : BitVec 8) :
    (s.setRx buf len).regs.pecErr = s.regs.pecErr := rfl
@[simp] theorem State.setRx_regs_cell (buf : Vector Byte 128) (len : BitVec 8) :
    (s.setRx buf len).regs.cell = s.regs.cell := rfl
@[simp] theorem State.setRx_regs_aux (buf : Vector Byte 128) (len : BitVec 8) :
    (s.setRx buf len).regs.aux = s.regs.aux := rfl
@[simp] theorem State.setRx_regs_cfgrx (buf : Vector Byte 128) (len : BitVec 8) :
    (s.setRx buf len).regs.cfgrx = s.regs.cfgrx := rfl
@[simp] theorem State.setRx_regs_orch (buf : Vector Byte 128) (len : BitVec 8) :
    (s.setRx buf len).regs.orch = s.regs.orch := rfl
@[simp] theorem State.setRx_regs_retries (buf : Vector Byte 128) (len : BitVec 8) :
    (s.setRx buf len).regs.retries = s.regs.retries := rfl
@[simp] theorem State.setRx_regs_txbuf (buf : Vector Byte 128) (len : BitVec 8) :
    (s.setRx buf len).regs.txbuf = s.regs.txbuf := rfl
@[simp] theorem State.setRx_regs_txlen (buf : Vector Byte 128) (len : BitVec 8) :
    (s.setRx buf len).regs.txlen = s.regs.txlen := rfl
@[simp] theorem State.setRx_regs_rxbuf (buf : Vector Byte 128) (len : BitVec 8) :
    (s.setRx buf len).regs.rxbuf = buf := rfl
@[simp] theorem State.setRx_regs_rxlen (buf : Vector Byte 128) (len : BitVec 8) :
    (s.setRx buf len).regs.rxlen = len := rfl
@[simp] theorem State.setRx_host (buf : Vector Byte 128) (len : BitVec 8) :
    (s.setRx buf len).host = s.host := rfl
@[simp] theorem State.setRx_bus (buf : Vector Byte 128) (len : BitVec 8) :
    (s.setRx buf len).bus = s.bus := rfl
@[simp] theorem State.setRx_past (buf : Vector Byte 128) (len : BitVec 8) :
    (s.setRx buf len).past = s.past := rfl
@[simp] theorem State.setRx_par (buf : Vector Byte 128) (len : BitVec 8) :
    (s.setRx buf len).par = s.par := rfl

/-! ### `State.log` -/

@[simp] theorem State.log_regs (e : BusEvent) : (s.log e).regs = s.regs := rfl
@[simp] theorem State.log_host (e : BusEvent) : (s.log e).host = s.host := rfl
@[simp] theorem State.log_bus_cs (e : BusEvent) : (s.log e).bus.cs = s.bus.cs := rfl
@[simp] theorem State.log_bus_trace (e : BusEvent) : (s.log e).bus.trace = s.bus.trace ++ [e] := rfl
@[simp] theorem State.log_bus_link (e : BusEvent) : (s.log e).bus.link = s.bus.link := rfl
@[simp] theorem State.log_bus_draws (e : BusEvent) : (s.log e).bus.draws = s.bus.draws := rfl
@[simp] theorem State.log_bus_hangIn (e : BusEvent) : (s.log e).bus.hangIn = s.bus.hangIn := rfl
@[simp] theorem State.log_bus_resetIn (e : BusEvent) : (s.log e).bus.resetIn = s.bus.resetIn := rfl
@[simp] theorem State.log_bus_script (e : BusEvent) : (s.log e).bus.script = s.bus.script := rfl
@[simp] theorem State.log_past (e : BusEvent) : (s.log e).past = s.past := rfl
@[simp] theorem State.log_par (e : BusEvent) : (s.log e).par = s.par := rfl

/-! ### `State.setCs` -/

@[simp] theorem State.setCs_regs (v : Bool) : (s.setCs v).regs = s.regs := rfl
@[simp] theorem State.setCs_host (v : Bool) : (s.setCs v).host = s.host := rfl
@[simp] theorem State.setCs_bus_cs (v : Bool) : (s.setCs v).bus.cs = v := rfl
@[simp] theorem State.setCs_bus_trace (v : Bool) : (s.setCs v).bus.trace = s.bus.trace := rfl
@[simp] theorem State.setCs_bus_link (v : Bool) : (s.setCs v).bus.link = s.bus.link := rfl
@[simp] theorem State.setCs_bus_draws (v : Bool) : (s.setCs v).bus.draws = s.bus.draws := rfl
@[simp] theorem State.setCs_bus_hangIn (v : Bool) : (s.setCs v).bus.hangIn = s.bus.hangIn := rfl
@[simp] theorem State.setCs_bus_resetIn (v : Bool) : (s.setCs v).bus.resetIn = s.bus.resetIn := rfl
@[simp] theorem State.setCs_bus_script (v : Bool) : (s.setCs v).bus.script = s.bus.script := rfl
@[simp] theorem State.setCs_past (v : Bool) : (s.setCs v).past = s.past := rfl
@[simp] theorem State.setCs_par (v : Bool) : (s.setCs v).par = s.par := rfl

/-! ### `State.consumeLink` -/

@[simp] theorem State.consumeLink_regs (k : Nat) : (s.consumeLink k).regs = s.regs := rfl
@[simp] theorem State.consumeLink_host (k : Nat) : (s.consumeLink k).host = s.host := rfl
@[simp] theorem State.consumeLink_bus_cs (k : Nat) : (s.consumeLink k).bus.cs = s.bus.cs := rfl
@[simp] theorem State.consumeLink_bus_trace (k : Nat) : (s.consumeLink k).bus.trace = s.bus.trace := rfl
@[simp] theorem State.consumeLink_bus_link (k : Nat) : (s.consumeLink k).bus.link = s.bus.link.drop k := rfl
@[simp] theorem State.consumeLink_bus_draws (k : Nat) :
    (s.consumeLink k).bus.draws = s.bus.draws + (k - s.bus.link.length) := rfl
@[simp] theorem State.consumeLink_bus_hangIn (k : Nat) : (s.consumeLink k).bus.hangIn = s.bus.hangIn := rfl
@[simp] theorem State.consumeLink_bus_resetIn (k : Nat) : (s.consumeLink k).bus.resetIn = s.bus.resetIn := rfl
@[simp] theorem State.consumeLink_bus_script (k : Nat) : (s.consumeLink k).bus.script = s.bus.script := rfl
@[simp] theorem State.consumeLink_past (k : Nat) : (s.consumeLink k).past = s.past := rfl
@[simp] theorem State.consumeLink_par (k : Nat) : (s.consumeLink k).par = s.par := rfl

/-! ### `State.setDeadlines` -/

@[simp] theorem State.setDeadlines_regs (hangIn resetIn : Option Nat) :
    (s.setDeadlines hangIn resetIn).regs = s.regs := rfl
@[simp] theorem State.setDeadlines_host (hangIn resetIn : Option Nat) :
    (s.setDeadlines hangIn resetIn).host = s.host := rfl
@[simp] theorem State.setDeadlines_bus_cs (hangIn resetIn : Option Nat) :
    (s.setDeadlines hangIn resetIn).bus.cs = s.bus.cs := rfl
@[simp] theorem State.setDeadlines_bus_trace (hangIn resetIn : Option Nat) :
    (s.setDeadlines hangIn resetIn).bus.trace = s.bus.trace := rfl
@[simp] theorem State.setDeadlines_bus_link (hangIn resetIn : Option Nat) :
    (s.setDeadlines hangIn resetIn).bus.link = s.bus.link := rfl
@[simp] theorem State.setDeadlines_bus_draws (hangIn resetIn : Option Nat) :
    (s.setDeadlines hangIn resetIn).bus.draws = s.bus.draws := rfl
@[simp] theorem State.setDeadlines_bus_hangIn (hangIn resetIn : Option Nat) :
    (s.setDeadlines hangIn resetIn).bus.hangIn = hangIn := rfl
@[simp] theorem State.setDeadlines_bus_resetIn (hangIn resetIn : Option Nat) :
    (s.setDeadlines hangIn resetIn).bus.resetIn = resetIn := rfl
@[simp] theorem State.setDeadlines_bus_script (hangIn resetIn : Option Nat) :
    (s.setDeadlines hangIn resetIn).bus.script = s.bus.script := rfl
@[simp] theorem State.setDeadlines_past (hangIn resetIn : Option Nat) :
    (s.setDeadlines hangIn resetIn).past = s.past := rfl
@[simp] theorem State.setDeadlines_par (hangIn resetIn : Option Nat) :
    (s.setDeadlines hangIn resetIn).par = s.par := rfl

/-! ### `State.passMoment` -/

@[simp] theorem State.passMoment_regs : (s.passMoment).regs = s.regs := rfl
@[simp] theorem State.passMoment_host : (s.passMoment).host = s.host := rfl
@[simp] theorem State.passMoment_bus_cs : (s.passMoment).bus.cs = s.bus.cs := rfl
@[simp] theorem State.passMoment_bus_trace : (s.passMoment).bus.trace = s.bus.trace := rfl
@[simp] theorem State.passMoment_bus_link : (s.passMoment).bus.link = s.bus.link := rfl
@[simp] theorem State.passMoment_bus_draws : (s.passMoment).bus.draws = s.bus.draws := rfl
@[simp] theorem State.passMoment_bus_hangIn : (s.passMoment).bus.hangIn = s.bus.hangIn := rfl
@[simp] theorem State.passMoment_bus_resetIn :
    (s.passMoment).bus.resetIn = s.bus.resetIn.map fun k => k - 1 := rfl
@[simp] theorem State.passMoment_bus_script : (s.passMoment).bus.script = s.bus.script := rfl
@[simp] theorem State.passMoment_past : (s.passMoment).past = s.past := rfl
@[simp] theorem State.passMoment_par : (s.passMoment).par = s.par := rfl

/-! ### `State.setActive` -/

@[simp] theorem State.setActive_regs (v : Option Sample) : (s.setActive v).regs = s.regs := rfl
@[simp] theorem State.setActive_host_requests (v : Option Sample) :
    (s.setActive v).host.requests = s.host.requests := rfl
@[simp] theorem State.setActive_host_encSel (v : Option Sample) :
    (s.setActive v).host.encSel = s.host.encSel := rfl
@[simp] theorem State.setActive_host_active (v : Option Sample) : (s.setActive v).host.active = v := rfl
@[simp] theorem State.setActive_host_responses (v : Option Sample) :
    (s.setActive v).host.responses = s.host.responses := rfl
@[simp] theorem State.setActive_host_encOut (v : Option Sample) :
    (s.setActive v).host.encOut = s.host.encOut := rfl
@[simp] theorem State.setActive_bus (v : Option Sample) : (s.setActive v).bus = s.bus := rfl
@[simp] theorem State.setActive_past (v : Option Sample) : (s.setActive v).past = s.past := rfl
@[simp] theorem State.setActive_par (v : Option Sample) : (s.setActive v).par = s.par := rfl

/-! ### `State.respond` -/

@[simp] theorem State.respond_regs (st : Status) (p : Payload) : (s.respond st p).regs = s.regs := rfl
@[simp] theorem State.respond_host_requests (st : Status) (p : Payload) :
    (s.respond st p).host.requests = s.host.requests := rfl
@[simp] theorem State.respond_host_encSel (st : Status) (p : Payload) :
    (s.respond st p).host.encSel = s.host.encSel := rfl
@[simp] theorem State.respond_host_active (st : Status) (p : Payload) :
    (s.respond st p).host.active = s.host.active := rfl
@[simp] theorem State.respond_host_responses (st : Status) (p : Payload) :
    (s.respond st p).host.responses = s.host.responses ++ [⟨st, p⟩] := rfl
@[simp] theorem State.respond_host_encOut (st : Status) (p : Payload) :
    (s.respond st p).host.encOut = s.host.encOut := rfl
@[simp] theorem State.respond_bus (st : Status) (p : Payload) : (s.respond st p).bus = s.bus := rfl
@[simp] theorem State.respond_past (st : Status) (p : Payload) : (s.respond st p).past = s.past := rfl
@[simp] theorem State.respond_par (st : Status) (p : Payload) : (s.respond st p).par = s.par := rfl

/-! ### `State.setEncOut` -/

@[simp] theorem State.setEncOut_regs (f : List Byte) : (s.setEncOut f).regs = s.regs := rfl
@[simp] theorem State.setEncOut_host_requests (f : List Byte) :
    (s.setEncOut f).host.requests = s.host.requests := rfl
@[simp] theorem State.setEncOut_host_encSel (f : List Byte) :
    (s.setEncOut f).host.encSel = s.host.encSel := rfl
@[simp] theorem State.setEncOut_host_active (f : List Byte) :
    (s.setEncOut f).host.active = s.host.active := rfl
@[simp] theorem State.setEncOut_host_responses (f : List Byte) :
    (s.setEncOut f).host.responses = s.host.responses := rfl
@[simp] theorem State.setEncOut_host_encOut (f : List Byte) : (s.setEncOut f).host.encOut = f := rfl
@[simp] theorem State.setEncOut_bus (f : List Byte) : (s.setEncOut f).bus = s.bus := rfl
@[simp] theorem State.setEncOut_past (f : List Byte) : (s.setEncOut f).past = s.past := rfl
@[simp] theorem State.setEncOut_par (f : List Byte) : (s.setEncOut f).par = s.par := rfl

/-! ### `State.setInputs` -/

@[simp] theorem State.setInputs_regs (reqs : List (List Byte)) (sel : Option WireCmd) :
    (s.setInputs reqs sel).regs = s.regs := rfl
@[simp] theorem State.setInputs_host_requests (reqs : List (List Byte)) (sel : Option WireCmd) :
    (s.setInputs reqs sel).host.requests = reqs := rfl
@[simp] theorem State.setInputs_host_encSel (reqs : List (List Byte)) (sel : Option WireCmd) :
    (s.setInputs reqs sel).host.encSel = sel := rfl
@[simp] theorem State.setInputs_host_active (reqs : List (List Byte)) (sel : Option WireCmd) :
    (s.setInputs reqs sel).host.active = s.host.active := rfl
@[simp] theorem State.setInputs_host_responses (reqs : List (List Byte)) (sel : Option WireCmd) :
    (s.setInputs reqs sel).host.responses = s.host.responses := rfl
@[simp] theorem State.setInputs_host_encOut (reqs : List (List Byte)) (sel : Option WireCmd) :
    (s.setInputs reqs sel).host.encOut = s.host.encOut := rfl
@[simp] theorem State.setInputs_bus (reqs : List (List Byte)) (sel : Option WireCmd) :
    (s.setInputs reqs sel).bus = s.bus := rfl
@[simp] theorem State.setInputs_past (reqs : List (List Byte)) (sel : Option WireCmd) :
    (s.setInputs reqs sel).past = s.past := rfl
@[simp] theorem State.setInputs_par (reqs : List (List Byte)) (sel : Option WireCmd) :
    (s.setInputs reqs sel).par = s.par := rfl

/-! ### `State.runPec` -/

@[simp] theorem State.runPec_regs_rem (bytes : List Byte) :
    (s.runPec bytes).regs.rem = pecRem s.par.table bytes := by simp [State.runPec]
@[simp] theorem State.runPec_regs_md (bytes : List Byte) :
    (s.runPec bytes).regs.md = s.regs.md := by simp [State.runPec]
@[simp] theorem State.runPec_regs_dcp (bytes : List Byte) :
    (s.runPec bytes).regs.dcp = s.regs.dcp := by simp [State.runPec]
@[simp] theorem State.runPec_regs_ch (bytes : List Byte) :
    (s.runPec bytes).regs.ch = s.regs.ch := by simp [State.runPec]
@[simp] theorem State.runPec_regs_chg (bytes : List Byte) :
    (s.runPec bytes).regs.chg = s.regs.chg := by simp [State.runPec]
@[simp] theorem State.runPec_regs_cfgValid (bytes : List Byte) :
    (s.runPec bytes).regs.cfgValid = s.regs.cfgValid := by simp [State.runPec]
@[simp] theorem State.runPec_regs_pecErr (bytes : List Byte) :
    (s.runPec bytes).regs.pecErr = s.regs.pecErr := by simp [State.runPec]
@[simp] theorem State.runPec_regs_cell (bytes : List Byte) :
    (s.runPec bytes).regs.cell = s.regs.cell := by simp [State.runPec]
@[simp] theorem State.runPec_regs_aux (bytes : List Byte) :
    (s.runPec bytes).regs.aux = s.regs.aux := by simp [State.runPec]
@[simp] theorem State.runPec_regs_cfgrx (bytes : List Byte) :
    (s.runPec bytes).regs.cfgrx = s.regs.cfgrx := by simp [State.runPec]
@[simp] theorem State.runPec_regs_orch (bytes : List Byte) :
    (s.runPec bytes).regs.orch = s.regs.orch := by simp [State.runPec]
@[simp] theorem State.runPec_regs_retries (bytes : List Byte) :
    (s.runPec bytes).regs.retries = s.regs.retries := by simp [State.runPec]
@[simp] theorem State.runPec_regs_txbuf (bytes : List Byte) :
    (s.runPec bytes).regs.txbuf = s.regs.txbuf := by simp [State.runPec]
@[simp] theorem State.runPec_regs_txlen (bytes : List Byte) :
    (s.runPec bytes).regs.txlen = s.regs.txlen := by simp [State.runPec]
@[simp] theorem State.runPec_regs_rxbuf (bytes : List Byte) :
    (s.runPec bytes).regs.rxbuf = s.regs.rxbuf := by simp [State.runPec]
@[simp] theorem State.runPec_regs_rxlen (bytes : List Byte) :
    (s.runPec bytes).regs.rxlen = s.regs.rxlen := by simp [State.runPec]
@[simp] theorem State.runPec_host (bytes : List Byte) :
    (s.runPec bytes).host = s.host := by simp [State.runPec]
@[simp] theorem State.runPec_bus (bytes : List Byte) : (s.runPec bytes).bus = s.bus := by simp [State.runPec]
@[simp] theorem State.runPec_past (bytes : List Byte) :
    (s.runPec bytes).past = s.past := by simp [State.runPec]
@[simp] theorem State.runPec_par (bytes : List Byte) : (s.runPec bytes).par = s.par := by simp [State.runPec]

/-! ### `State.writeTx` -/

@[simp] theorem State.writeTx_regs_rem (addr : Nat) (bytes : List Byte) :
    (s.writeTx addr bytes).regs.rem = s.regs.rem := by simp [State.writeTx]
@[simp] theorem State.writeTx_regs_md (addr : Nat) (bytes : List Byte) :
    (s.writeTx addr bytes).regs.md = s.regs.md := by simp [State.writeTx]
@[simp] theorem State.writeTx_regs_dcp (addr : Nat) (bytes : List Byte) :
    (s.writeTx addr bytes).regs.dcp = s.regs.dcp := by simp [State.writeTx]
@[simp] theorem State.writeTx_regs_ch (addr : Nat) (bytes : List Byte) :
    (s.writeTx addr bytes).regs.ch = s.regs.ch := by simp [State.writeTx]
@[simp] theorem State.writeTx_regs_chg (addr : Nat) (bytes : List Byte) :
    (s.writeTx addr bytes).regs.chg = s.regs.chg := by simp [State.writeTx]
@[simp] theorem State.writeTx_regs_cfgValid (addr : Nat) (bytes : List Byte) :
    (s.writeTx addr bytes).regs.cfgValid = s.regs.cfgValid := by simp [State.writeTx]
@[simp] theorem State.writeTx_regs_pecErr (addr : Nat) (bytes : List Byte) :
    (s.writeTx addr bytes).regs.pecErr = s.regs.pecErr := by simp [State.writeTx]
@[simp] theorem State.writeTx_regs_cell (addr : Nat) (bytes : List Byte) :
    (s.writeTx addr bytes).regs.cell = s.regs.cell := by simp [State.writeTx]
@[simp] theorem State.writeTx_regs_aux (addr : Nat) (bytes : List Byte) :
    (s.writeTx addr bytes).regs.aux = s.regs.aux := by simp [State.writeTx]
@[simp] theorem State.writeTx_regs_cfgrx (addr : Nat) (bytes : List Byte) :
    (s.writeTx addr bytes).regs.cfgrx = s.regs.cfgrx := by simp [State.writeTx]
@[simp] theorem State.writeTx_regs_orch (addr : Nat) (bytes : List Byte) :
    (s.writeTx addr bytes).regs.orch = s.regs.orch := by simp [State.writeTx]
@[simp] theorem State.writeTx_regs_retries (addr : Nat) (bytes : List Byte) :
    (s.writeTx addr bytes).regs.retries = s.regs.retries := by simp [State.writeTx]
@[simp] theorem State.writeTx_regs_txbuf (addr : Nat) (bytes : List Byte) :
    (s.writeTx addr bytes).regs.txbuf = memWrite s.regs.txbuf addr bytes := by simp [State.writeTx]
@[simp] theorem State.writeTx_regs_txlen (addr : Nat) (bytes : List Byte) :
    (s.writeTx addr bytes).regs.txlen = s.regs.txlen := by simp [State.writeTx]
@[simp] theorem State.writeTx_regs_rxbuf (addr : Nat) (bytes : List Byte) :
    (s.writeTx addr bytes).regs.rxbuf = s.regs.rxbuf := by simp [State.writeTx]
@[simp] theorem State.writeTx_regs_rxlen (addr : Nat) (bytes : List Byte) :
    (s.writeTx addr bytes).regs.rxlen = s.regs.rxlen := by simp [State.writeTx]
@[simp] theorem State.writeTx_host (addr : Nat) (bytes : List Byte) :
    (s.writeTx addr bytes).host = s.host := by simp [State.writeTx]
@[simp] theorem State.writeTx_bus (addr : Nat) (bytes : List Byte) :
    (s.writeTx addr bytes).bus = s.bus := by simp [State.writeTx]
@[simp] theorem State.writeTx_past (addr : Nat) (bytes : List Byte) :
    (s.writeTx addr bytes).past = s.past := by simp [State.writeTx]
@[simp] theorem State.writeTx_par (addr : Nat) (bytes : List Byte) :
    (s.writeTx addr bytes).par = s.par := by simp [State.writeTx]

/-! ### `State.setCfgrxByte` -/

@[simp] theorem State.setCfgrxByte_regs_rem (d j : Nat) (v : Byte) :
    (s.setCfgrxByte d j v).regs.rem = s.regs.rem := by simp [State.setCfgrxByte]
@[simp] theorem State.setCfgrxByte_regs_md (d j : Nat) (v : Byte) :
    (s.setCfgrxByte d j v).regs.md = s.regs.md := by simp [State.setCfgrxByte]
@[simp] theorem State.setCfgrxByte_regs_dcp (d j : Nat) (v : Byte) :
    (s.setCfgrxByte d j v).regs.dcp = s.regs.dcp := by simp [State.setCfgrxByte]
@[simp] theorem State.setCfgrxByte_regs_ch (d j : Nat) (v : Byte) :
    (s.setCfgrxByte d j v).regs.ch = s.regs.ch := by simp [State.setCfgrxByte]
@[simp] theorem State.setCfgrxByte_regs_chg (d j : Nat) (v : Byte) :
    (s.setCfgrxByte d j v).regs.chg = s.regs.chg := by simp [State.setCfgrxByte]
@[simp] theorem State.setCfgrxByte_regs_cfgValid (d j : Nat) (v : Byte) :
    (s.setCfgrxByte d j v).regs.cfgValid = s.regs.cfgValid := by simp [State.setCfgrxByte]
@[simp] theorem State.setCfgrxByte_regs_pecErr (d j : Nat) (v : Byte) :
    (s.setCfgrxByte d j v).regs.pecErr = s.regs.pecErr := by simp [State.setCfgrxByte]
@[simp] theorem State.setCfgrxByte_regs_cell (d j : Nat) (v : Byte) :
    (s.setCfgrxByte d j v).regs.cell = s.regs.cell := by simp [State.setCfgrxByte]
@[simp] theorem State.setCfgrxByte_regs_aux (d j : Nat) (v : Byte) :
    (s.setCfgrxByte d j v).regs.aux = s.regs.aux := by simp [State.setCfgrxByte]
@[simp] theorem State.setCfgrxByte_regs_cfgrx (d j : Nat) (v : Byte) :
    (s.setCfgrxByte d j v).regs.cfgrx = setSlot s.regs.cfgrx d j v := by simp [State.setCfgrxByte]
@[simp] theorem State.setCfgrxByte_regs_orch (d j : Nat) (v : Byte) :
    (s.setCfgrxByte d j v).regs.orch = s.regs.orch := by simp [State.setCfgrxByte]
@[simp] theorem State.setCfgrxByte_regs_retries (d j : Nat) (v : Byte) :
    (s.setCfgrxByte d j v).regs.retries = s.regs.retries := by simp [State.setCfgrxByte]
@[simp] theorem State.setCfgrxByte_regs_txbuf (d j : Nat) (v : Byte) :
    (s.setCfgrxByte d j v).regs.txbuf = s.regs.txbuf := by simp [State.setCfgrxByte]
@[simp] theorem State.setCfgrxByte_regs_txlen (d j : Nat) (v : Byte) :
    (s.setCfgrxByte d j v).regs.txlen = s.regs.txlen := by simp [State.setCfgrxByte]
@[simp] theorem State.setCfgrxByte_regs_rxbuf (d j : Nat) (v : Byte) :
    (s.setCfgrxByte d j v).regs.rxbuf = s.regs.rxbuf := by simp [State.setCfgrxByte]
@[simp] theorem State.setCfgrxByte_regs_rxlen (d j : Nat) (v : Byte) :
    (s.setCfgrxByte d j v).regs.rxlen = s.regs.rxlen := by simp [State.setCfgrxByte]
@[simp] theorem State.setCfgrxByte_host (d j : Nat) (v : Byte) :
    (s.setCfgrxByte d j v).host = s.host := by simp [State.setCfgrxByte]
@[simp] theorem State.setCfgrxByte_bus (d j : Nat) (v : Byte) :
    (s.setCfgrxByte d j v).bus = s.bus := by simp [State.setCfgrxByte]
@[simp] theorem State.setCfgrxByte_past (d j : Nat) (v : Byte) :
    (s.setCfgrxByte d j v).past = s.past := by simp [State.setCfgrxByte]
@[simp] theorem State.setCfgrxByte_par (d j : Nat) (v : Byte) :
    (s.setCfgrxByte d j v).par = s.par := by simp [State.setCfgrxByte]

/-! ### `State.setCode` -/

@[simp] theorem State.setCode_regs_rem (b : Bank) (d c : Nat) (v : Code) :
    (s.setCode b d c v).regs.rem = s.regs.rem := by cases b <;> simp [State.setCode]
@[simp] theorem State.setCode_regs_md (b : Bank) (d c : Nat) (v : Code) :
    (s.setCode b d c v).regs.md = s.regs.md := by cases b <;> simp [State.setCode]
@[simp] theorem State.setCode_regs_dcp (b : Bank) (d c : Nat) (v : Code) :
    (s.setCode b d c v).regs.dcp = s.regs.dcp := by cases b <;> simp [State.setCode]
@[simp] theorem State.setCode_regs_ch (b : Bank) (d c : Nat) (v : Code) :
    (s.setCode b d c v).regs.ch = s.regs.ch := by cases b <;> simp [State.setCode]
@[simp] theorem State.setCode_regs_chg (b : Bank) (d c : Nat) (v : Code) :
    (s.setCode b d c v).regs.chg = s.regs.chg := by cases b <;> simp [State.setCode]
@[simp] theorem State.setCode_regs_cfgValid (b : Bank) (d c : Nat) (v : Code) :
    (s.setCode b d c v).regs.cfgValid = s.regs.cfgValid := by cases b <;> simp [State.setCode]
@[simp] theorem State.setCode_regs_pecErr (b : Bank) (d c : Nat) (v : Code) :
    (s.setCode b d c v).regs.pecErr = s.regs.pecErr := by cases b <;> simp [State.setCode]
@[simp] theorem State.setCode_regs_cell (b : Bank) (d c : Nat) (v : Code) :
    (s.setCode b d c v).regs.cell = match b with
      | .cell => setSlot s.regs.cell d c v
      | .aux => s.regs.cell := by cases b <;> simp [State.setCode]
@[simp] theorem State.setCode_regs_aux (b : Bank) (d c : Nat) (v : Code) :
    (s.setCode b d c v).regs.aux = match b with
      | .cell => s.regs.aux
      | .aux => setSlot s.regs.aux d c v := by cases b <;> simp [State.setCode]
@[simp] theorem State.setCode_regs_cfgrx (b : Bank) (d c : Nat) (v : Code) :
    (s.setCode b d c v).regs.cfgrx = s.regs.cfgrx := by cases b <;> simp [State.setCode]
@[simp] theorem State.setCode_regs_orch (b : Bank) (d c : Nat) (v : Code) :
    (s.setCode b d c v).regs.orch = s.regs.orch := by cases b <;> simp [State.setCode]
@[simp] theorem State.setCode_regs_retries (b : Bank) (d c : Nat) (v : Code) :
    (s.setCode b d c v).regs.retries = s.regs.retries := by cases b <;> simp [State.setCode]
@[simp] theorem State.setCode_regs_txbuf (b : Bank) (d c : Nat) (v : Code) :
    (s.setCode b d c v).regs.txbuf = s.regs.txbuf := by cases b <;> simp [State.setCode]
@[simp] theorem State.setCode_regs_txlen (b : Bank) (d c : Nat) (v : Code) :
    (s.setCode b d c v).regs.txlen = s.regs.txlen := by cases b <;> simp [State.setCode]
@[simp] theorem State.setCode_regs_rxbuf (b : Bank) (d c : Nat) (v : Code) :
    (s.setCode b d c v).regs.rxbuf = s.regs.rxbuf := by cases b <;> simp [State.setCode]
@[simp] theorem State.setCode_regs_rxlen (b : Bank) (d c : Nat) (v : Code) :
    (s.setCode b d c v).regs.rxlen = s.regs.rxlen := by cases b <;> simp [State.setCode]
@[simp] theorem State.setCode_host (b : Bank) (d c : Nat) (v : Code) :
    (s.setCode b d c v).host = s.host := by cases b <;> simp [State.setCode]
@[simp] theorem State.setCode_bus (b : Bank) (d c : Nat) (v : Code) :
    (s.setCode b d c v).bus = s.bus := by cases b <;> simp [State.setCode]
@[simp] theorem State.setCode_past (b : Bank) (d c : Nat) (v : Code) :
    (s.setCode b d c v).past = s.past := by cases b <;> simp [State.setCode]
@[simp] theorem State.setCode_par (b : Bank) (d c : Nat) (v : Code) :
    (s.setCode b d c v).par = s.par := by cases b <;> simp [State.setCode]

end Sys2Proof.Machine
end

