-- ==== Sys2Proof/Laws/Buffers.lean ====
section
/-! SUPPORT. Sys2Proof/Laws/Buffers.lean: reading after writing, for the byte buffers, the result arrays and the
environment's byte stream. -/

namespace Sys2Proof.Machine

/-! ### Byte buffers -/

@[simp] theorem memRead_length {m : Nat} (buf : Vector Byte m) (a n : Nat) :
    (memRead buf a n).length = n := by simp [memRead]

theorem memRead_getElem? {m : Nat} (buf : Vector Byte m) (a n i : Nat) :
    (memRead buf a n)[i]? = if i < n then some (bufByte buf (a + i)) else none := by
  by_cases h : i < n <;> simp [memRead, h]

/-- What every byte of a buffer is after a write. -/
theorem bufByte_memWrite {m : Nat} (buf : Vector Byte m) (a : Nat) (bytes : List Byte) (i : Nat) :
    bufByte (memWrite buf a bytes) i =
      if a ≤ i ∧ i < a + bytes.length ∧ i < m then bytes.getD (i - a) 0 else bufByte buf i := by
  unfold bufByte memWrite
  by_cases hm : i < m
  · by_cases ha : a ≤ i
    · by_cases hl : i < a + bytes.length
      · simp [hm, ha, hl, show i - a < bytes.length by omega]
      · simp [hm, ha, hl, show ¬ i - a < bytes.length by omega]
    · simp [hm, ha]
  · simp [hm]

/-- Reading inside what was just written. -/
theorem memRead_memWrite_inside {m : Nat} (buf : Vector Byte m) (a : Nat) (bytes : List Byte) (k n : Nat)
    (hn : k + n ≤ bytes.length) (hm : a + bytes.length ≤ m) :
    memRead (memWrite buf a bytes) (a + k) n = (bytes.drop k).take n := by
  apply List.ext_getElem?
  intro i
  rw [memRead_getElem?]
  by_cases hi : i < n
  · rw [if_pos hi, bufByte_memWrite, if_pos (by omega)]
    simp [hi, show k + i < bytes.length by omega,
      show a + k + i - a = k + i by omega]
  · simp [hi]

/-- Reading back the whole of what was written. -/
theorem memRead_memWrite_same {m : Nat} (buf : Vector Byte m) (a : Nat) (bytes : List Byte)
    (hm : a + bytes.length ≤ m) : memRead (memWrite buf a bytes) a bytes.length = bytes := by
  simpa using memRead_memWrite_inside buf a bytes 0 bytes.length (by omega) hm

/-- Reading elsewhere. -/
theorem memRead_memWrite_other {m : Nat} (buf : Vector Byte m) (a : Nat) (bytes : List Byte) (k n : Nat)
    (h : k + n ≤ a ∨ a + bytes.length ≤ k) :
    memRead (memWrite buf a bytes) k n = memRead buf k n := by
  apply List.ext_getElem?
  intro i
  rw [memRead_getElem?, memRead_getElem?]
  by_cases hi : i < n
  · rw [if_pos hi, if_pos hi, bufByte_memWrite, if_neg (by omega)]
  · simp [hi]

/-- A read is the read of its front and of the rest. -/
theorem memRead_append {m : Nat} (buf : Vector Byte m) (a n k : Nat) :
    memRead buf a (n + k) = memRead buf a n ++ memRead buf (a + n) k := by
  simp only [memRead, List.range_add, List.map_append, List.map_map]
  congr 1
  apply List.map_congr_left
  intro i _
  simp [Nat.add_assoc]

/-! ### Result arrays -/

/-- What every slot is after one slot is written. -/
theorem slotAt_setSlot {w r c : Nat} (a : Vector (Vector (BitVec w) c) r) (d k : Nat) (v : BitVec w)
    (d' k' : Nat) :
    slotAt (setSlot a d k v) d' k' =
      if d' = d ∧ k' = k ∧ d < r ∧ k < c then v else slotAt a d' k' := by
  unfold slotAt setSlot
  by_cases hd : d < r
  · rw [dif_pos hd]
    by_cases h' : d' < r ∧ k' < c
    · rw [dif_pos h', dif_pos h']
      by_cases e : d = d'
      · subst e
        by_cases ek : k = k'
        · subst ek; simp [hd, h'.2]
        · have ek' : ¬ k' = k := fun x => ek x.symm
          simp [ek, ek']
      · have e' : ¬ d' = d := fun x => e x.symm
        simp [e, e']
    · rw [dif_neg h', dif_neg h', if_neg (by rintro ⟨rfl, rfl, h⟩; exact h' h)]
  · rw [dif_neg hd, if_neg (by tauto)]

/-! ### The environment's byte stream -/

@[simp] theorem BusPort.answer_length (b : BusPort) (k : Nat) : (b.answer k).length = k := by
  simp [BusPort.answer]

theorem BusPort.answer_getElem? (b : BusPort) (k i : Nat) :
    (b.answer k)[i]? = if i < k then some (b.byteAt i) else none := by
  by_cases h : i < k <;> simp [BusPort.answer, h]

/-- After `k` bytes were taken, the stream goes on where it was. -/
@[simp] theorem State.consumeLink_byteAt (s : State) (k i : Nat) :
    (s.consumeLink k).bus.byteAt i = s.bus.byteAt (k + i) := by
  simp only [BusPort.byteAt, State.consumeLink_bus_link, State.consumeLink_bus_draws,
    List.getElem?_drop, List.length_drop]
  by_cases h : k + i < s.bus.link.length
  · simp [h]
  · rw [List.getElem?_eq_none (by omega)]
    simp only [Option.getD_none]
    congr 1
    omega

end Sys2Proof.Machine
end

