-- ==== Sys2Proof/Laws/Ops.lean ====
section
/-! SUPPORT. Sys2Proof/Laws/Ops.lean: one lemma for each shared operation that says what it does: the checksum, the
frame, a transaction, one device's part of a read, one group read, and the settling of an outcome. -/

namespace Sys2Proof.Machine

/-! ### The checksum and the frame -/

@[simp] theorem pecRem_nil (table : Vector (BitVec 16) 256) : pecRem table [] = 0x0010 := rfl

theorem pecRem_concat (table : Vector (BitVec 16) 256) (bs : List Byte) (b : Byte) :
    pecRem table (bs ++ [b]) = pecStep table (pecRem table bs) b := by simp [pecRem]

@[simp] theorem withPec_length (table : Vector (BitVec 16) 256) (bs : List Byte) :
    (withPec table bs).length = bs.length + 2 := by simp [withPec, pecBytes]

@[simp] theorem frame_length (table : Vector (BitVec 16) 256) (w : Code) : (frame table w).length = 4 := by
  simp [frame, opcodeBytes]

theorem wordOfBytes_high_low (w : Code) : wordOfBytes (highByte w) (lowByte w) = w := by
  simp only [wordOfBytes, highByte, lowByte]
  ext i hi
  simp only [BitVec.getElem_append, BitVec.getElem_extractLsb']
  split
  · simp [BitVec.getLsbD_eq_getElem hi]
  · simp [BitVec.getLsbD_eq_getElem hi, show 8 + (i - 8) = i by omega]

@[simp] theorem highByte_wordOfBytes (hi lo : Byte) : highByte (wordOfBytes hi lo) = hi := by
  show (hi ++ lo : BitVec (8 + 8)).extractLsb' 8 8 = hi
  ext i h
  rw [BitVec.getElem_extractLsb', BitVec.getLsbD_append]
  simp [BitVec.getLsbD_eq_getElem h]

@[simp] theorem lowByte_wordOfBytes (hi lo : Byte) : lowByte (wordOfBytes hi lo) = lo := by
  show (hi ++ lo : BitVec (8 + 8)).extractLsb' 0 8 = lo
  ext i h
  rw [BitVec.getElem_extractLsb', BitVec.getLsbD_append]
  simp [h]

/-- `TXBUF[0..3] <- enc(); TXLEN <- 4` writes REM, TXBUF and TXLEN. -/
theorem loadFrame_eq (c : WireCmd) (s : State) :
    loadFrame c s = { s with
      regs.rem := pecRem s.par.table (opcodeBytes (commandWord c s))
      regs.txbuf := memWrite s.regs.txbuf 0 (frame s.par.table (commandWord c s))
      regs.txlen := 4 } := rfl

@[simp] theorem loadFrame_txBytes (c : WireCmd) (s : State) :
    (loadFrame c s).txBytes = frame s.par.table (commandWord c s) := by
  have h := memRead_memWrite_same s.regs.txbuf 0 (frame s.par.table (commandWord c s)) (by simp)
  rw [frame_length] at h
  exact h

/-! ### One transaction -/

/-- One transaction fills RXBUF from the environment's stream and adds its four events to the trace; every
other register, the host port and the deadlines stay (42_register_access.md R140). -/
theorem transact_eq (c : WireCmd) (k : Nat) (s : State) :
    transact c k s = { s with
      regs.rxbuf := memWrite s.regs.rxbuf 0 (s.bus.answer k)
      regs.rxlen := BitVec.ofNat 8 k
      bus.cs := false
      bus.trace := s.bus.trace ++ transaction (wakeKind s.par c) s.txBytes (s.bus.answer k)
      bus.link := s.bus.link.drop k
      bus.draws := s.bus.draws + (k - s.bus.link.length) } := by
  have h : ((s.wake (wakeKind s.par c)).csAssert).bus.answer k = s.bus.answer k := by
    simp [BusPort.answer, BusPort.byteAt, State.wake, State.csAssert]
  simp only [transact, State.exchange, h]
  simp [State.wake, State.csAssert, State.csDeassert, State.log, State.setCs, State.setRx,
    State.consumeLink, transaction, State.txBytes]

@[simp] theorem transact_byteAt (c : WireCmd) (k : Nat) (s : State) (i : Nat) :
    (transact c k s).bus.byteAt i = s.bus.byteAt (k + i) := by
  rw [transact_eq, ← State.consumeLink_byteAt]
  rfl

/-- A block of the response lies where the environment's stream has it (20_memory.md R47, R57). -/
theorem transact_rxBlock (c : WireCmd) (n : Nat) (s : State) (hn : n ≤ 16) (d : Nat) (hd : d < n) :
    (transact c (8 * n) s).rxBlock d = streamBlock s.bus (8 * d) := by
  have h := memRead_memWrite_inside s.regs.rxbuf 0 (s.bus.answer (8 * n)) (8 * d) 8
    (by simp; omega) (by simp; omega)
  rw [Nat.zero_add] at h
  rw [transact_eq]
  refine h.trans ?_
  apply List.ext_getElem?
  intro i
  rw [List.getElem?_take, streamBlock, List.getElem?_map, List.getElem?_drop, BusPort.answer_getElem?]
  by_cases hi : i < 8
  · simp [hi, show 8 * d + i < 8 * n by omega]
  · simp [hi]

/-! ### One device's part of a read -/

/-- `check(blk)` writes REM and PEC_ERR (42_register_access.md R143). -/
theorem checkBlock_eq (blk : List Byte) (s : State) :
    checkBlock blk s = { s with
      regs.rem := pecRem s.par.table (blockData blk)
      regs.pecErr := s.regs.pecErr || mismatch s.par.table blk } := rfl

/-- What a slot of a result array is after one code is stored. -/
theorem codeAt_setCode (b b' : Bank) (d c d' c' : Nat) (v : Code) (s : State) :
    (s.setCode b d c v).codeAt b' d' c' =
      if b' = b ∧ d' = d ∧ c' = c ∧ d < 16 ∧ c < b.channels then v else s.codeAt b' d' c' := by
  cases b <;> cases b' <;> simp [State.codeAt, slotAt_setSlot, Bank.channels, Bank.groups]

/-- Storing codes writes the result arrays only. -/
theorem storeCodes_eq (b : Bank) (gi d : Nat) (blk : List Byte) (s : State) :
    storeCodes b gi d blk s = { s with
      regs.cell := (storeCodes b gi d blk s).regs.cell
      regs.aux := (storeCodes b gi d blk s).regs.aux } := by
  cases b <;> rfl

/-- The three codes of a block go to the three slots of the group (42_register_access.md R144). -/
theorem codeAt_storeCodes (b b' : Bank) (gi d d' c' : Nat) (blk : List Byte) (s : State) :
    (storeCodes b gi d blk s).codeAt b' d' c' =
      if b' = b ∧ d' = d ∧ d < 16 ∧ 3 * gi ≤ c' ∧ c' < 3 * gi + 3 ∧ c' < b.channels
      then codeOf blk (c' - 3 * gi) else s.codeAt b' d' c' := by
  simp only [storeCodes, show List.range 3 = [0, 1, 2] from rfl, List.foldl, codeAt_setCode]
  by_cases hb : b' = b ∧ d' = d ∧ d < 16
  · obtain ⟨rfl, rfl, hd⟩ := hb
    simp only [true_and, hd]
    by_cases h2 : c' = 3 * gi + 2
    · subst h2
      by_cases hc : 3 * gi + 2 < b'.channels <;> simp [hc]
    · by_cases h1 : c' = 3 * gi + 1
      · subst h1
        by_cases hc : 3 * gi + 1 < b'.channels <;> simp [hc]
      · by_cases h0 : c' = 3 * gi
        · subst h0
          by_cases hc : 3 * gi < b'.channels <;> simp [hc]
        · have hn : ¬ (3 * gi ≤ c' ∧ c' < 3 * gi + 3 ∧ c' < b'.channels) := by omega
          simp [h0, h1, h2, hn]
  · have h : ∀ P : Prop, ¬ (b' = b ∧ d' = d ∧ d < 16 ∧ P) := fun P hp => hb ⟨hp.1, hp.2.1, hp.2.2.1⟩
    have h' : ∀ k, ¬ (b' = b ∧ d' = d ∧ c' = k ∧ d < 16 ∧ k < b.channels) :=
      fun k hk => hb ⟨hk.1, hk.2.1, hk.2.2.2.1⟩
    simp [h, h']

/-- `MemWrite(CFGRX, [d][0], 8, blk)` byte by byte: what each slot of CFGRX is after the first `k` bytes. -/
theorem cfgrx_storeBlock (blk : List Byte) (d k : Nat) (s : State) (d' j' : Nat) :
    slotAt ((List.range k).foldl (fun t j => t.setCfgrxByte d j (blk.getD j 0)) s).regs.cfgrx d' j' =
      if d' = d ∧ d < 16 ∧ j' < k ∧ j' < 8 then blk.getD j' 0 else slotAt s.regs.cfgrx d' j' := by
  induction k with
  | zero => simp
  | succ k ih =>
    rw [List.range_succ, List.foldl_append]
    simp only [List.foldl, State.setCfgrxByte_regs_cfgrx, slotAt_setSlot, ih]
    by_cases hk : j' = k
    · subst hk
      by_cases h : d' = d ∧ d < 16 ∧ j' < 8
      · obtain ⟨rfl, h1, h2⟩ := h
        simp [h1, h2]
      · rw [if_neg (by tauto), if_neg (by tauto), if_neg (by tauto)]
    · rw [if_neg (by tauto)]
      by_cases h : d' = d ∧ d < 16 ∧ j' < k ∧ j' < 8
      · rw [if_pos h, if_pos ⟨h.1, h.2.1, by omega, h.2.2.2⟩]
      · rw [if_neg h, if_neg (by rintro ⟨h1, h2, h3, h4⟩; exact h ⟨h1, h2, by omega, h4⟩)]

/-! ### The devices of one response -/

/-- The reading of the first `n` blocks of a response touches REM, PEC_ERR and the result arrays only. -/
theorem readDevices_eq (b : Bank) (gi n : Nat) (s : State) :
    (List.range n).foldl (readDevice b gi) s = { s with
      regs.rem := ((List.range n).foldl (readDevice b gi) s).regs.rem
      regs.pecErr := ((List.range n).foldl (readDevice b gi) s).regs.pecErr
      regs.cell := ((List.range n).foldl (readDevice b gi) s).regs.cell
      regs.aux := ((List.range n).foldl (readDevice b gi) s).regs.aux } := by
  induction n with
  | zero => rfl
  | succ n ih =>
    rw [List.range_succ, List.foldl_append]
    generalize (List.range n).foldl (readDevice b gi) s = t at ih ⊢
    simp only [List.foldl, readDevice, checkBlock_eq]
    rw [storeCodes_eq, ih]

theorem readDevices_rxBlock (b : Bank) (gi n : Nat) (s : State) (d : Nat) :
    ((List.range n).foldl (readDevice b gi) s).rxBlock d = s.rxBlock d := by
  rw [readDevices_eq]
  rfl

theorem readDevices_par (b : Bank) (gi n : Nat) (s : State) :
    ((List.range n).foldl (readDevice b gi) s).par = s.par := by
  rw [readDevices_eq]

/-- After the first `n` blocks, PEC_ERR is set if it was or if one of them does not match
(42_register_access.md R143). -/
theorem readDevices_pecErr (b : Bank) (gi n : Nat) (s : State) :
    ((List.range n).foldl (readDevice b gi) s).regs.pecErr =
      (s.regs.pecErr || (List.range n).any fun d => mismatch s.par.table (s.rxBlock d)) := by
  induction n with
  | zero => simp
  | succ n ih =>
    have hr := readDevices_rxBlock b gi n s n
    have hp := readDevices_par b gi n s
    rw [List.range_succ, List.foldl_append, List.any_append]
    generalize (List.range n).foldl (readDevice b gi) s = t at ih hr hp ⊢
    simp only [List.foldl, readDevice, checkBlock_eq]
    rw [storeCodes_eq]
    simp [ih, hr, hp, Bool.or_assoc]

/-- After the first `n` blocks, the group's slots of devices 0..n-1 hold their codes, every other slot what
it held (42_register_access.md R144, 10_state.md R19). -/
theorem readDevices_codeAt (b b' : Bank) (gi n : Nat) (s : State) (d c : Nat) :
    ((List.range n).foldl (readDevice b gi) s).codeAt b' d c =
      if b' = b ∧ d < n ∧ d < 16 ∧ 3 * gi ≤ c ∧ c < 3 * gi + 3 ∧ c < b.channels
      then codeOf (s.rxBlock d) (c - 3 * gi) else s.codeAt b' d c := by
  induction n with
  | zero => simp
  | succ n ih =>
    have hr := readDevices_rxBlock b gi n s n
    rw [List.range_succ, List.foldl_append]
    generalize (List.range n).foldl (readDevice b gi) s = t at ih hr ⊢
    have hc : ((([n] : List Nat).foldl (readDevice b gi) t)).codeAt b' d c =
        (storeCodes b gi n (t.rxBlock n) t).codeAt b' d c := by
      simp only [List.foldl, readDevice, checkBlock_eq]
      cases b' <;> rfl
    rw [hc, codeAt_storeCodes, ih, hr]
    by_cases hd : d = n
    · subst hd
      by_cases h : b' = b ∧ d < 16 ∧ 3 * gi ≤ c ∧ c < 3 * gi + 3 ∧ c < b.channels
      · rw [if_pos ⟨h.1, rfl, h.2⟩, if_pos ⟨h.1, by omega, h.2⟩]
      · rw [if_neg (by tauto), if_neg (by tauto), if_neg (by tauto)]
    · rw [if_neg (by tauto)]
      by_cases h : b' = b ∧ d < n ∧ d < 16 ∧ 3 * gi ≤ c ∧ c < 3 * gi + 3 ∧ c < b.channels
      · rw [if_pos h, if_pos ⟨h.1, by omega, h.2.2⟩]
      · rw [if_neg h, if_neg (by rintro ⟨h1, h2, h3⟩; exact h ⟨h1, by omega, h3⟩)]

/-! ### One group read -/

/-- The command word of a group read is the fixed one (41_command_encoder.md R114 to R119). -/
theorem commandWord_readCommand (b : Bank) (gi : Nat) (s : State) :
    commandWord (readCommand b gi) s = opcode s.par (readCommand b gi) := by
  cases b <;> simp only [readCommand] <;> split_ifs <;> rfl

/-- One group read stores the codes of `n` blocks of the environment's stream and leaves every other slot. -/
theorem readOne_codeAt (b b' : Bank) (n : Nat) (hn : n ≤ 16) (s : State) (gi d c : Nat) :
    (readOne b n s gi).codeAt b' d c =
      if b' = b ∧ d < n ∧ 3 * gi ≤ c ∧ c < 3 * gi + 3 ∧ c < b.channels
      then codeOf (streamBlock s.bus (8 * d)) (c - 3 * gi) else s.codeAt b' d c := by
  rw [readOne, readDevices_codeAt]
  by_cases h : b' = b ∧ d < n ∧ 3 * gi ≤ c ∧ c < 3 * gi + 3 ∧ c < b.channels
  · rw [if_pos h, if_pos ⟨h.1, h.2.1, by omega, h.2.2⟩, transact_rxBlock _ _ _ hn _ h.2.1, loadFrame_eq]
  · rw [if_neg h, if_neg (by tauto), transact_eq, loadFrame_eq]
    cases b' <;> rfl

/-- One group read sets PEC_ERR if one of its `n` blocks does not match, and never clears it. -/
theorem readOne_pecErr (b : Bank) (n : Nat) (hn : n ≤ 16) (s : State) (gi : Nat) :
    (readOne b n s gi).regs.pecErr =
      (s.regs.pecErr || (List.range n).any fun d => mismatch s.par.table (streamBlock s.bus (8 * d))) := by
  have hany : ((List.range n).any fun d => mismatch s.par.table
      ((transact (readCommand b gi) (8 * n) (loadFrame (readCommand b gi) s)).rxBlock d)) =
      (List.range n).any fun d => mismatch s.par.table (streamBlock s.bus (8 * d)) := by
    rw [Bool.eq_iff_iff, List.any_eq_true, List.any_eq_true]
    refine exists_congr fun d => and_congr_right fun hd => ?_
    rw [transact_rxBlock _ _ _ hn _ (List.mem_range.mp hd), loadFrame_eq]
  rw [readOne, readDevices_pecErr, ← hany, transact_eq, loadFrame_eq]

/-- One group read is one transaction: the frame of the group's command, `8n` bytes received. -/
theorem readOne_trace (b : Bank) (n : Nat) (s : State) (gi : Nat) :
    (readOne b n s gi).bus.trace =
      s.bus.trace ++ readTransaction s n 0 (readCommand b gi) := by
  rw [readOne, readDevices_eq]
  show (transact _ _ _).bus.trace = _
  rw [transact_eq]
  show _ ++ transaction _ (loadFrame _ s).txBytes _ = _
  rw [loadFrame_txBytes, commandWord_readCommand]
  simp only [readTransaction, Nat.mul_zero, Nat.zero_add]
  rfl

/-- One group read takes `8n` bytes of the environment's stream. -/
theorem readOne_byteAt (b : Bank) (n : Nat) (s : State) (gi i : Nat) :
    (readOne b n s gi).bus.byteAt i = s.bus.byteAt (8 * n + i) := by
  rw [readOne, readDevices_eq]
  show (transact _ _ _).bus.byteAt i = _
  rw [transact_byteAt, loadFrame_eq]

/-- What one group read leaves alone: the conversion configuration, CFGRX, the orchestrator, the host port,
the deadlines and the parameters. -/
theorem readOne_frame (b : Bank) (n : Nat) (s : State) (gi : Nat) :
    let t := readOne b n s gi
    t.regs.md = s.regs.md ∧ t.regs.dcp = s.regs.dcp ∧ t.regs.ch = s.regs.ch ∧ t.regs.chg = s.regs.chg ∧
    t.regs.cfgValid = s.regs.cfgValid ∧ t.regs.cfgrx = s.regs.cfgrx ∧ t.regs.orch = s.regs.orch ∧
    t.regs.retries = s.regs.retries ∧ t.host = s.host ∧ t.bus.cs = false ∧
    t.bus.hangIn = s.bus.hangIn ∧ t.bus.resetIn = s.bus.resetIn ∧ t.par = s.par := by
  rw [readOne, readDevices_eq, transact_eq, loadFrame_eq]
  simp

/-! ### Moments and cuts -/

@[simp] theorem totalOf_nil (w : BusEvent → Nat) : totalOf w [] = 0 := rfl

@[simp] theorem totalOf_cons (w : BusEvent → Nat) (e : BusEvent) (es : List BusEvent) :
    totalOf w (e :: es) = w e + totalOf w es := by simp [totalOf]

@[simp] theorem totalOf_append (w : BusEvent → Nat) (a b : List BusEvent) :
    totalOf w (a ++ b) = totalOf w a + totalOf w b := by simp [totalOf]

@[simp] theorem newEvents_append (s t : State) (evs : List BusEvent) (h : t.bus.trace = s.bus.trace ++ evs) :
    newEvents s t = evs := by simp [newEvents, h]

/-- The moments of one transaction: four, and one for each byte. -/
theorem totalOf_transaction (kind : WakeKind) (tx rx : List Byte) :
    totalOf BusEvent.moments (transaction kind tx rx) = 4 + tx.length + rx.length ∧
    totalOf BusEvent.waits (transaction kind tx rx) = 2 + tx.length + rx.length := by
  simp [transaction, BusEvent.moments, BusEvent.waits]
  omega

/-- What a cut is: everything, if the events last no longer than `k`; else whole events and, of the next one,
what went through in the moments that are left. -/
theorem cutAt_cases (w : BusEvent → Nat) (k : Nat) (evs : List BusEvent) :
    (totalOf w evs ≤ k ∧ cutAt w k evs = ⟨evs, [], []⟩) ∨
    (k < totalOf w evs ∧ ∃ e rest m, evs = (cutAt w k evs).done ++ e :: rest ∧
      totalOf w (cutAt w k evs).done + m = k ∧ m < w e ∧
      (cutAt w k evs).sent = (e.cutAfter m).sent ∧ (cutAt w k evs).received = (e.cutAfter m).received) := by
  induction evs generalizing k with
  | nil => exact .inl ⟨Nat.zero_le _, rfl⟩
  | cons e es ih =>
    by_cases he : w e ≤ k
    · simp only [cutAt, if_pos he, totalOf_cons]
      obtain ⟨hk, hc⟩ | ⟨hk, e', rest, m, h1, h2, h3⟩ := ih (k - w e)
      · exact .inl ⟨by omega, by rw [hc]⟩
      · exact .inr ⟨by omega, e', rest, m, by rw [List.cons_append, ← h1], by omega, h3⟩
    · have hd : (e.cutAfter k).done = [] := by cases e <;> rfl
      simp only [cutAt, if_neg he, totalOf_cons, hd]
      exact .inr ⟨by omega, e, es, k, rfl, by simp, by omega, rfl, rfl⟩

/-- The bytes that went through an event that did not end are as many as the moments spent in it. -/
theorem cutAfter_length (e : BusEvent) (m : Nat) (h : m < e.moments) :
    (e.cutAfter m).sent.length + (e.cutAfter m).received.length = m := by
  cases e <;> simp [BusEvent.cutAfter, Cut.none, BusEvent.moments] at h ⊢ <;> omega

/-! ### The outcome of an operation -/

@[simp] theorem setDeadlines_self (s : State) : s.setDeadlines s.bus.hangIn s.bus.resetIn = s := rfl

/-- Under a reliable adapter and with no reset coming, an operation ends as if nothing else could. -/
theorem settle_reliable (s t : State) (hs : Reliable s) (ht : Reliable t) : settle s t = .next t := by
  obtain ⟨h1, h2⟩ := hs
  have h : t.setDeadlines none none = t := by
    conv_rhs => rw [← setDeadlines_self t]
    rw [ht.1, ht.2]
  simp [settle, h1, h2, hangs, h]

/-- Everything an operation can end in. -/
theorem settle_cases (s t : State) :
    (∃ k, s.bus.resetIn = some k ∧
      settle s t = .next (hostReset (resetCut s.bus.hangIn k (newEvents s t)) s) ∧
      (k < totalOf BusEvent.moments (newEvents s t) + 2 ∨ hangs s.bus.hangIn (newEvents s t) = true)) ∨
    (settle s t = .next (t.setDeadlines
        (s.bus.hangIn.map fun h => h - totalOf BusEvent.waits (newEvents s t))
        (s.bus.resetIn.map fun k => k - (totalOf BusEvent.moments (newEvents s t) + 2))) ∧
      hangs s.bus.hangIn (newEvents s t) = false ∧
      ∀ k, s.bus.resetIn = some k → totalOf BusEvent.moments (newEvents s t) + 2 ≤ k) ∨
    (∃ h, s.bus.hangIn = some h ∧ s.bus.resetIn = none ∧ h < totalOf BusEvent.waits (newEvents s t) ∧
      settle s t = .fault (.transportHang (s.endedRun (cutAt BusEvent.waits h (newEvents s t))))) := by
  unfold settle
  cases hr : s.bus.resetIn with
  | none =>
    cases hh : s.bus.hangIn with
    | none => exact .inr (.inl (by simp [hangs]))
    | some h =>
      by_cases hl : h < totalOf BusEvent.waits (newEvents s t)
      · exact .inr (.inr ⟨h, rfl, rfl, hl, by simp [hangs, hl]⟩)
      · exact .inr (.inl (by simp [hangs, hl]))
  | some k =>
    by_cases hc : k < totalOf BusEvent.moments (newEvents s t) + 2 ∨ hangs s.bus.hangIn (newEvents s t) = true
    · exact .inl ⟨k, rfl, by simp [hc], hc⟩
    · refine .inr (.inl ⟨by simp [hc], by simpa using fun h => hc (.inr h), ?_⟩)
      rintro k' ⟨rfl⟩
      exact Nat.not_lt.mp fun h => hc (.inl h)

/-- A reset leaves what 70_reset_and_hazards.md R220 says, whatever came before, and adds the run to the record. -/
theorem hostReset_afterReset (c : Cut) (s : State) :
    afterReset (hostReset c s) ∧ (hostReset c s).par = s.par ∧
    (hostReset c s).past = s.past ++ [s.endedRun c] := by
  refine ⟨⟨rfl, rfl, ?_, ?_, rfl, rfl⟩, rfl, rfl⟩ <;>
    (simp only [hostReset, BusPort.nextRun]; split <;> rfl)

end Sys2Proof.Machine
end

