-- ==== Sys2Proof/Tests/Slice0.lean ====
section
/-! SUPPORT. Sys2Proof/Tests/Slice0.lean: the well-formedness smoke tests, the decoding of every row from words written
out from 30_encoding.md, one-step tests against the vectors of 95_test_vectors.md, and a witness for the
hypotheses of every statement. -/

namespace Sys2Proof.Tests

open Sys2Proof Sys2Proof.Machine

set_option Elab.async false

/-! ### WellFormed refuses what the format cannot carry -/

theorem test_wf_configure_mode : (Instr.configure 256 0 0 0).wellFormed = false := by decide
theorem test_wf_configure_dcp : (Instr.configure 1 256 0 0).wellFormed = false := by decide
theorem test_wf_configure_ch : (Instr.configure 1 0 256 0).wellFormed = false := by decide
theorem test_wf_configure_chg : (Instr.configure 1 0 0 256).wellFormed = false := by decide
theorem test_wf_rdcv_selector : (Instr.rdcv 256 1).wellFormed = false := by decide
theorem test_wf_rdcv_count : (Instr.rdcv 0 256).wellFormed = false := by decide
theorem test_wf_rdaux_selector : (Instr.rdaux 256 1).wellFormed = false := by decide
theorem test_wf_rdaux_count : (Instr.rdaux 0 256).wellFormed = false := by decide
theorem test_wf_wrcfg_count : (Instr.wrcfg 256 (List.replicate 256 #v[0, 0, 0, 0, 0, 0])).wellFormed = false := by
  decide +kernel
theorem test_wf_wrcfg_blocks : (Instr.wrcfg 2 [#v[0, 0, 0, 0, 0, 0]]).wellFormed = false := by decide
theorem test_wf_rdcfg_count : (Instr.rdcfg 256).wellFormed = false := by decide
theorem test_wf_samplev_count : (Instr.samplev 256 .unbounded).wellFormed = false := by decide
theorem test_wf_sampleaux_count : (Instr.sampleaux 256 .unbounded).wellFormed = false := by decide

/-! ### Decoding: host requests (30_encoding.md R74, R72), selector first, operand bytes as log 13 has them -/

theorem test_decode_peccomp : decodeHost [0x00, 0x01, 0x07, 0x01, 0x11, 0x00] = .ok (.peccomp [0x07, 0x11]) := by rfl
theorem test_decode_pecverify :
    decodeHost [0x01, 0x01, 0x00, 0x01, 0x01, 0x00, 0x3D, 0x6E] = .ok (.pecverify [0x00, 0x01] 0x3D6E) := by rfl
theorem test_decode_configure : decodeHost [0x02, 0x03, 0x01, 0x07, 0x06] = .ok (.configure 3 1 7 6) := by rfl
theorem test_decode_rdcv : decodeHost [0x03, 0x01, 0x02] = .ok (.rdcv 1 2) := by rfl
theorem test_decode_rdaux : decodeHost [0x04, 0x02, 0x10] = .ok (.rdaux 2 16) := by rfl
theorem test_decode_wrcfg : decodeHost [0x05, 0x01, 0xE4, 0x52, 0x27, 0xA0, 0x00, 0x50] =
    .ok (.wrcfg 1 [#v[0xE4, 0x52, 0x27, 0xA0, 0x00, 0x50]]) := by rfl
theorem test_decode_rdcfg : decodeHost [0x06, 0x10] = .ok (.rdcfg 16) := by rfl
/-- P6: `SAMPLEV n=16, max_retry=UNBOUNDED` is operands 16, 0x10000. -/
theorem test_decode_samplev : decodeHost [0x07, 0x10, 0x01, 0x00, 0x00] = .ok (.samplev 16 .unbounded) := by rfl
/-- P4: `SAMPLEAUX n=2, max_retry=1` is operands 2, 0x00001. -/
theorem test_decode_sampleaux : decodeHost [0x08, 0x02, 0x00, 0x00, 0x01] = .ok (.sampleaux 2 (.count 1)) := by rfl
theorem test_decode_adcv : decodeHost [0x09] = .ok .adcv := by rfl
theorem test_decode_adax : decodeHost [0x0A] = .ok .adax := by rfl
theorem test_decode_clrcell : decodeHost [0x0B] = .ok .clrcell := by rfl
theorem test_decode_clraux : decodeHost [0x0C] = .ok .clraux := by rfl
theorem test_decode_undefined : decodeHost [0x0D] = .error (.undefinedHop 0x0D) := by rfl
theorem test_decode_trailing : decodeHost [0x09, 0x00] = .error .trailingBytes := by rfl

/-! ### Decoding: command words (30_encoding.md R66 to R68), bit by bit -/

/-- R67 with MD = 01, DCP = 1, CH = 111: 0000001 01 11 1 0 111. -/
theorem test_decode_enc_adcv : decodeWord 0b0000001011110111 = .ok (.encAdcv 1 1 7) := by rfl
/-- R68 with MD = 10, CHG = 110: 0000010 10 11 00 110. -/
theorem test_decode_enc_adax : decodeWord 0b0000010101100110 = .ok (.encAdax 2 6) := by rfl
theorem test_decode_enc_rdcva : decodeWord 0b0000000000000100 = .ok .encRdcva := by rfl
theorem test_decode_enc_rdcvb : decodeWord 0b0000000000000110 = .ok .encRdcvb := by rfl
theorem test_decode_enc_rdcvc : decodeWord 0b0000000000001000 = .ok .encRdcvc := by rfl
theorem test_decode_enc_rdcvd : decodeWord 0b0000000000001010 = .ok .encRdcvd := by rfl
theorem test_decode_enc_rdauxa : decodeWord 0b0000000000001100 = .ok .encRdauxa := by rfl
theorem test_decode_enc_rdauxb : decodeWord 0b0000000000001110 = .ok .encRdauxb := by rfl
theorem test_decode_enc_rdcfg : decodeWord 0b0000000000000010 = .ok .encRdcfg := by rfl
theorem test_decode_enc_wrcfg : decodeWord 0b0000000000000001 = .ok .encWrcfg := by rfl
theorem test_decode_enc_clrcell : decodeWord 0b0000011100010001 = .ok .encClrcell := by rfl
theorem test_decode_enc_clraux : decodeWord 0b0000011100010010 = .ok .encClraux := by rfl
theorem test_decode_no_word : decodeWord 0x0003 = .error (.notACommandWord 0x0003) := by rfl

/-! ### Small states -/

/-- After reset, with the noise floor of the programs of 95_test_vectors.md and these bytes from the chain. -/
def idle (link : List Byte) : State := { State.reset with par.noiseFloorUv := 10000, bus.link := link }

/-- As `idle`, after `CONFIGURE mode=2, dcp=0, ch=0, chg=0` (vector E13). -/
def configured (link : List Byte) : State := { idle link with regs.md := 2, regs.cfgValid := true }

/-- The state an outcome carries; the reset state where it carries none. -/
def after (o : Host.Outcome State Fault Refusal) : State :=
  match o with
  | .next s => s
  | .fault _ => State.reset
  | .refused _ => State.reset

/-- The blocks of 95_test_vectors.md section 2.3. -/
def blkA : List Byte := [0x35, 0x82, 0x40, 0x9C, 0x32, 0x00, 0x0F, 0x46]
def blkB : List Byte := [0x30, 0x75, 0x64, 0x00, 0x63, 0x00, 0x9D, 0xD2]
def blkC : List Byte := [0xFF, 0xFF, 0x00, 0x00, 0x34, 0x12, 0x13, 0xB0]
def blkD : List Byte := [0x10, 0xA4, 0xA0, 0x8C, 0x01, 0x00, 0x3C, 0x34]
def blkXA0 : List Byte := [0x11, 0x11, 0x22, 0x22, 0x33, 0x33, 0x35, 0x8A]
def blkXB0 : List Byte := [0x77, 0x77, 0x88, 0x88, 0x99, 0x99, 0xEA, 0xC6]
def blkXB1 : List Byte := [0xAA, 0xAA, 0xBB, 0xBB, 0x30, 0x75, 0x14, 0x84]
def blkK0 : List Byte := [0xE4, 0x52, 0x27, 0xA0, 0x00, 0x50, 0x47, 0x48]
def blkK1 : List Byte := [0x01, 0x02, 0x03, 0x04, 0x05, 0x06, 0x22, 0xEE]

/-- Block C with one payload bit flipped (vector A4). -/
def blkCbad : List Byte := [0xFF, 0xFF, 0x10, 0x00, 0x34, 0x12, 0x13, 0xB0]

def cfg0 : Vector Byte 6 := #v[0xE4, 0x52, 0x27, 0xA0, 0x00, 0x50]
def cfg1 : Vector Byte 6 := #v[0x01, 0x02, 0x03, 0x04, 0x05, 0x06]

/-! ### The checksum engine -/

/-- Vector V36. -/
theorem test_peccomp : (after (exec (.peccomp [0x00, 0x01]) (idle []))).host.responses =
    [⟨.ok, .code 0x3D6E⟩] := by decide +kernel
/-- Vector V37. -/
theorem test_peccomp_empty : (after (exec (.peccomp []) (idle []))).host.responses =
    [⟨.ok, .code 0x0020⟩] := by decide +kernel
/-- Vector V38. -/
theorem test_pecverify : (after (exec (.pecverify [0x00, 0x01] 0x3D6E) (idle []))).host.responses =
    [⟨.ok, .matched true⟩] := by decide +kernel
/-- Vector V40: the byte-swapped code. -/
theorem test_pecverify_swapped : (after (exec (.pecverify [0x00, 0x01] 0x6E3D) (idle []))).host.responses =
    [⟨.ok, .matched false⟩] := by decide +kernel
/-- Vectors V13 to V19. -/
theorem test_pec_vectors : [[0xFF, 0xFF, 0xFF, 0xFF, 0xFF, 0xFF], [0, 0, 0, 0, 0, 0], [1, 2, 3, 4, 5, 6],
    [0x35, 0x82, 0x40, 0x9C, 0x32, 0x00], [0xE4, 0x52, 0x27, 0xA0, 0x00, 0x50],
    [0xAA, 0x55, 0xAA, 0x55, 0xAA, 0x55], [0xE8, 0x1C, 0x9C, 0x40, 0x00, 0x00]].map (pec15 Config.table) =
    [0x664C, 0xC212, 0x22EE, 0x0F46, 0x4748, 0x9872, 0x8078] := by decide +kernel
/-- Vector V42: with an all-zero table. -/
theorem test_pec_zero_table : pec15 (Vector.replicate 256 0) [0x00, 0x01] = 0x0000 := by decide +kernel

/-! ### The command encoder -/

/-- Vector E15: the whole configuration is written. -/
theorem test_configure : ((after (exec (.configure 3 1 7 6) (configured []))).regs.md,
    (after (exec (.configure 3 1 7 6) (configured []))).regs.dcp,
    (after (exec (.configure 3 1 7 6) (configured []))).regs.ch,
    (after (exec (.configure 3 1 7 6) (configured []))).regs.chg) = (3#2, 1#1, 7#3, 6#3) := by decide +kernel
/-- Vector E16: `ch = 8` writes nothing, `mode` among it. -/
theorem test_configure_all_or_nothing :
    (after (exec (.configure 1 0 8 0) (configured []))).regs = (configured []).regs := by decide +kernel
/-- Vector E11e. -/
theorem test_enc_adcv : (after (exec (.encAdcv 1 1 7)
    { idle [] with regs.md := 1, regs.dcp := 1, regs.ch := 7 })).host.encOut = [0x02, 0xF7, 0xC4, 0xD2] := by
  decide +kernel
/-- Vector E12f. -/
theorem test_enc_adax : (after (exec (.encAdax 2 6)
    { idle [] with regs.md := 2, regs.chg := 6, regs.dcp := 1, regs.ch := 7 })).host.encOut =
    [0x05, 0x66, 0xFF, 0x68] := by decide +kernel
/-- Vectors E1 to E10. -/
theorem test_enc_fixed : [Instr.encWrcfg, .encRdcfg, .encRdcva, .encRdcvb, .encRdcvc, .encRdcvd, .encRdauxa,
    .encRdauxb, .encClrcell, .encClraux].map (fun i => (after (exec i (idle []))).host.encOut) =
    [[0x00, 0x01, 0x3D, 0x6E], [0x00, 0x02, 0x2B, 0x0A], [0x00, 0x04, 0x07, 0xC2], [0x00, 0x06, 0x9A, 0x94],
     [0x00, 0x08, 0x5E, 0x52], [0x00, 0x0A, 0xC3, 0x04], [0x00, 0x0C, 0xEF, 0xCC], [0x00, 0x0E, 0x72, 0x9A],
     [0x07, 0x11, 0xC9, 0xC0], [0x07, 0x12, 0xDF, 0xA4]] := by decide +kernel

/-! ### Register access -/

/-- Vector A4: a flipped bit is reported and the codes are delivered. -/
theorem test_rdcv_corrupted : (after (exec (.rdcv 3 1) (idle blkCbad))).host.responses =
    [⟨.pecError, .codes [0xFFFF, 0x0010, 0x1234]⟩] := by decide +kernel
/-- Vector A3: all groups, one payload. -/
theorem test_rdcv_all : (after (exec (.rdcv 0 1) (idle (blkA ++ blkB ++ blkC ++ blkD)))).host.responses =
    [⟨.ok, .codes [0x8235, 0x9C40, 0x0032, 0x7530, 0x0064, 0x0063, 0xFFFF, 0x0000, 0x1234, 0xA410, 0x8CA0,
      0x0001]⟩] := by decide +kernel
/-- Vector A9. -/
theorem test_rdaux : (after (exec (.rdaux 2 2) (idle (blkXB0 ++ blkXB1)))).host.responses =
    [⟨.ok, .codes [0x7777, 0x8888, 0x9999, 0xAAAA, 0xBBBB, 0x7530]⟩] := by decide +kernel
/-- Vector X4: selector 3 is legal for RDCV only. -/
theorem test_rdaux_selector : (after (exec (.rdaux 3 1) (idle []))).host.responses =
    [⟨.configError, .absent⟩] := by decide +kernel
/-- Vector A16. -/
theorem test_rdcfg : (after (exec (.rdcfg 2) (idle (blkK0 ++ blkK1)))).host.responses =
    [⟨.ok, .blocks [blkK0, blkK1]⟩] := by decide +kernel
/-- Vector A17: PEC bytes swapped; the bytes are kept as received. -/
theorem test_rdcfg_swapped : (after (exec (.rdcfg 1)
    (idle [0xE4, 0x52, 0x27, 0xA0, 0x00, 0x50, 0x48, 0x47]))).host.responses =
    [⟨.pecError, .blocks [[0xE4, 0x52, 0x27, 0xA0, 0x00, 0x50, 0x48, 0x47]]⟩] := by decide +kernel
/-- Vector A14: device 1's block first. -/
theorem test_wrcfg : (after (exec (.wrcfg 2 [cfg0, cfg1]) (idle []))).bus.trace =
    [.wake .stayAwake, .csAssert, .xfer ([0x00, 0x01, 0x3D, 0x6E] ++ blkK1 ++ blkK0) [], .csDeassert] := by
  decide +kernel
/-- Vector A15: 132 bytes. -/
theorem test_wrcfg_longest : (after (exec (.wrcfg 16 (List.replicate 16 cfg0)) (idle []))).txBytes.length = 132 := by
  decide +kernel
/-- Vector A18. -/
theorem test_adcv : (after (exec .adcv (configured []))).bus.trace =
    [.wake .stayAwake, .csAssert, .xfer [0x03, 0x60, 0xF4, 0x6C] [], .csDeassert] := by decide +kernel
/-- Vector X7. -/
theorem test_adcv_unconfigured : (after (exec .adcv (idle []))).host.responses =
    [⟨.configError, .absent⟩] := by decide +kernel
/-- Vector A19. -/
theorem test_adax : (after (exec .adax (configured []))).bus.trace =
    [.wake .stayAwake, .csAssert, .xfer [0x05, 0x60, 0xD3, 0xA0] [], .csDeassert] := by decide +kernel
/-- Vectors A20 and X12. -/
theorem test_clrcell : (after (exec .clrcell (idle []))).bus.trace =
    [.wake .stayAwake, .csAssert, .xfer [0x07, 0x11, 0xC9, 0xC0] [], .csDeassert] := by decide +kernel
/-- Vector A21. -/
theorem test_clraux : (after (exec .clraux (idle []))).bus.trace =
    [.wake .stayAwake, .csAssert, .xfer [0x07, 0x12, 0xDF, 0xA4] [], .csDeassert] := by decide +kernel

/-! ### The orchestrator -/

/-- Program P1. -/
theorem test_samplev : (after (exec (.samplev 1 (.count 0))
    (configured (blkA ++ blkB ++ blkC ++ blkD)))).host.responses =
    [⟨.ok, .volts [3333300, 4000000, 0, 3000000, 10000, 0, 6553500, 0, 466000, 4200000, 3600000, 0]⟩] := by
  decide +kernel
/-- Program P3, after its first attempt: READ is to be entered again, RETRIES is 1, nothing was answered. -/
theorem test_samplev_retry :
    let t := after (exec (.samplev 1 (.count 2)) (configured (blkA ++ blkB ++ blkCbad ++ blkD)))
    (t.host.active, t.regs.retries, t.regs.orch, t.host.responses) =
      (some ⟨.cell, 1, .count 2⟩, 1#16, Orch.read, []) := by decide +kernel
/-- Vector O10 at its first attempt's end, and the codes are raw (43_orchestrator.md R172). -/
theorem test_sampleaux : (after (exec (.sampleaux 1 .unbounded) (configured (blkXA0 ++ blkXB0)))).host.responses =
    [⟨.ok, .codes [0x1111, 0x2222, 0x3333, 0x7777, 0x8888, 0x9999]⟩] := by decide +kernel
/-- Program P4's outcome at a bound of 0: ST_RETRY_EXHAUSTED without payload. -/
theorem test_sampleaux_exhausted : (after (exec (.sampleaux 1 (.count 0))
    (configured (blkCbad ++ blkXB0)))).host.responses = [⟨.retryExhausted, .absent⟩] := by decide +kernel

/-! ### The step -/

/-- Vector X9: an undefined selector. -/
theorem test_step_undefined : (after (step { idle [] with host.requests := [[0xFF]] })).host.responses =
    [⟨.configError, .absent⟩] := by decide +kernel
/-- A request taken from the port and run (vector A1). -/
theorem test_step_request : (after (step { idle blkA with host.requests := [[0x03, 0x01, 0x01]] })).host.responses =
    [⟨.ok, .codes [0x8235, 0x9C40, 0x0032]⟩] := by decide +kernel
/-- A table word placed after reset runs: the frame of R112's third example. -/
theorem test_step_word : (after (step (State.reset.withFetchWord 16 0x03E0))).host.encOut =
    [0x03, 0xE0, 0xB0, 0x4A] := by decide +kernel

/-- 70_reset_and_hazards.md R221: cut after `CsAssert`, with no `CsDeassert`. -/
theorem test_reset_after_csAssert : (after (step { idle blkA with
      host.requests := [[0x03, 0x01, 0x01]], bus.resetIn := some 3 })).past =
    [⟨[.wake .stayAwake, .csAssert], [], [], []⟩] := by decide +kernel
/-- 70_reset_and_hazards.md R221: cut "with part of `tx` sent", the answer of an earlier operation on record. -/
theorem test_reset_inside_exchange : (after (step { idle blkA with
      host.requests := [[0x03, 0x01, 0x01]], bus.resetIn := some 5
      host.responses := [⟨.ok, .code 0x0020⟩] })).past =
    [⟨[.wake .stayAwake, .csAssert], [0x00, 0x04], [], [⟨.ok, .code 0x0020⟩]⟩] := by decide +kernel
/-- 60_exceptions.md R194: the exchange of the command never returns. -/
theorem test_hang_in_exchange : (match step { idle blkA with
      host.requests := [[0x03, 0x01, 0x01]], bus.hangIn := some 13 } with
    | .fault (.transportHang run) => some run
    | _ => none) = some ⟨[.wake .stayAwake, .csAssert], [0x00, 0x04, 0x07, 0xC2], blkA, []⟩ := by decide +kernel

/-! ### Witnesses: a concrete case that meets the hypotheses of each statement -/

/-- A table that differs from the default in bit 15 of every entry. -/
def flippedTable : Vector (BitVec 16) 256 := Config.table.map (· ^^^ 0x8000)

theorem witness_PecIgnoresTableBit15 : ∀ i : BitVec 8,
    (tableAt Config.table i).setWidth 15 = (tableAt flippedTable i).setWidth 15 := by decide +kernel
theorem witness_PecDetectsSingleBitFlip : (0 < 8) ∧ (7 < 8) := by decide
theorem witness_PecIsAffine : ([0x01, 0xFF] : List Byte).length = ([0x80, 0x00] : List Byte).length := by decide
theorem witness_PeccompResult_zero_entry : tableAt Config.table 0 = 0 := by decide +kernel
theorem witness_PecverifyResult_odd : (0x3D6F : Code).getLsbD 0 = true := by decide
theorem witness_ConfigureWritesAllFields :
    (1 = (idle []).par.modeFast.toNat ∧ 0 ≤ 1 ∧ 0 ≤ 7 ∧ 0 ≤ 7) ∧
    (2 = (idle []).par.modeNormal.toNat ∧ 1 ≤ 1 ∧ 7 ≤ 7 ∧ 7 ≤ 7) ∧
    3 = (idle []).par.modeFiltered.toNat := by decide +kernel
theorem witness_EncAdcvFrame_equal_words : adcvWord 3 1 7 = adcvWord 3 1 7 := rfl
theorem witness_EncAdaxFrame_equal_words : adaxWord 3 7 = adaxWord 3 7 := rfl
theorem witness_FixedEncoderFrames : State.reset.par.table = Config.table ∧ State.reset.par.opc = Config.opc :=
  ⟨rfl, rfl⟩
theorem witness_blocks : blkA.length = 8 ∧ 0 < 3 ∧ 2 < 3 := by decide
theorem witness_CheckSetsFlagOnMismatchOnly : blkA.length = 8 ∧ blkCbad.length = 8 ∧
    mismatch Config.table blkA = false ∧ mismatch Config.table blkCbad = true := by decide +kernel
theorem witness_TransactionEvents : (0 ≤ 128) ∧ (128 ≤ 128) := by decide
theorem witness_reliable : Reliable (idle []) ∧ Reliable (configured blkA) := by decide +kernel
theorem witness_RdcvResult : (0 ≤ 4 ∧ 1 ≤ 1 ∧ 1 ≤ 16 ∧ Reliable (idle blkA)) ∧
    (4 ≤ 4 ∧ 1 ≤ 16 ∧ 16 ≤ 16) ∧ (4 < 5 ∨ 1 < 1 ∨ 16 < 1) ∧ (4 < 0 ∨ 0 < 1 ∨ 16 < 0) ∧
    (4 < 0 ∨ 17 < 1 ∨ 16 < 17) := by decide +kernel
theorem witness_RdauxResult : (0 ≤ 2 ∧ 1 ≤ 1 ∧ 1 ≤ 16 ∧ Reliable (idle blkXA0)) ∧
    (2 ≤ 2 ∧ 1 ≤ 16 ∧ 16 ≤ 16) ∧ (2 < 3 ∨ 1 < 1 ∨ 16 < 1) ∧ (2 < 0 ∨ 0 < 1 ∨ 16 < 0) ∧
    (2 < 0 ∨ 17 < 1 ∨ 16 < 17) := by decide +kernel
theorem witness_RdcfgResult : (1 ≤ 1 ∧ 1 ≤ 16 ∧ Reliable (idle blkK0)) ∧ 16 ≤ 16 ∧ (0 < 1 ∨ 16 < 0) ∧
    (17 < 1 ∨ 16 < 17) := by decide +kernel
theorem witness_WrcfgBurst : (1 ≤ 1 ∧ 1 ≤ 16 ∧ [cfg0].length = 1 ∧ Reliable (idle [])) ∧
    (16 ≤ 16 ∧ (List.replicate 16 cfg0).length = 16) ∧ (0 < 1 ∨ 16 < 0) ∧ (17 < 1 ∨ 16 < 17) := by
  decide +kernel
theorem witness_CommandOperations :
    (configured []).regs.cfgValid = true ∧ Reliable (configured []) ∧ (idle []).regs.cfgValid = false := by
  decide +kernel

/-- The chain after `WRCFG n=2` echoes each device's block (program P2). -/
theorem witness_WriteThenReadRoundTrip :
    let s := idle (blkK0 ++ blkK1)
    let t := after (exec (.wrcfg 2 [cfg0, cfg1]) s)
    let tx : List Byte := [0x00, 0x01, 0x3D, 0x6E] ++ blkK1 ++ blkK0
    (1 ≤ 2 ∧ 2 ≤ 16 ∧ [cfg0, cfg1].length = 2 ∧ Reliable s) ∧ isNext (exec (.wrcfg 2 [cfg0, cfg1]) s) = true ∧
    t.bus.trace = s.bus.trace ++ transaction .stayAwake tx [] ∧
    ∀ d, d < 2 → streamBlock t.bus (8 * d) = (tx.drop (4 + 8 * (2 - 1 - d))).take 8 := by decide +kernel

/-- One attempt of a voltage sample that matches, and one of each kind that does not. -/
theorem witness_SampleFirstAttemptGood :
    let s := configured (blkA ++ blkB ++ blkC ++ blkD)
    s.regs.cfgValid = true ∧ Reliable s ∧ anyMismatch s.par s.bus (readCommands .cell).length 1 = false := by
  decide +kernel
theorem witness_SampleFirstAttemptGood_aux :
    let s := configured (blkXA0 ++ blkXB0)
    s.regs.cfgValid = true ∧ Reliable s ∧ anyMismatch s.par s.bus (readCommands .aux).length 1 = false := by
  decide +kernel
theorem witness_SampleFirstAttemptBad :
    let s := configured (blkA ++ blkB ++ blkCbad ++ blkD)
    s.regs.cfgValid = true ∧ Reliable s ∧ anyMismatch s.par s.bus (readCommands .cell).length 1 = true ∧
    ((0 : BitVec 16) = 0) ∧ ¬ ((1 : BitVec 16) = 0) := by decide +kernel
theorem witness_RetryAttemptGood :
    let a : Sample := ⟨.cell, 1, .count 2⟩
    let s := { configured (blkA ++ blkB ++ blkC ++ blkD) with host.active := some a, regs.orch := .read }
    s.host.active = some a ∧ 1 ≤ a.n ∧ a.n ≤ 16 ∧ Reliable s ∧
    anyMismatch s.par s.bus (readCommands a.bank).length a.n = false := by decide +kernel
theorem witness_RetryAttemptBad :
    let a : Sample := ⟨.cell, 1, .count 2⟩
    let s := { configured (blkA ++ blkB ++ blkCbad ++ blkD) with host.active := some a, regs.retries := 1 }
    let u := { s with regs.retries := 2 }
    s.host.active = some a ∧ 1 ≤ a.n ∧ a.n ≤ 16 ∧ Reliable s ∧ Reliable u ∧
    anyMismatch s.par s.bus (readCommands a.bank).length a.n = true ∧
    s.regs.retries < 2 ∧ ¬ u.regs.retries < 2 := by decide +kernel
theorem witness_RetryAttemptBad_unbounded :
    let a : Sample := ⟨.aux, 1, .unbounded⟩
    let s := { configured (blkCbad ++ blkXB0) with host.active := some a, regs.orch := .read }
    s.host.active = some a ∧ 1 ≤ a.n ∧ a.n ≤ 16 ∧ Reliable s ∧
    anyMismatch s.par s.bus (readCommands a.bank).length a.n = true := by decide +kernel
theorem witness_BoundedSampleEnds : 1 ≤ 16 ∧ 16 ≤ 16 ∧ (configured []).regs.cfgValid = true ∧
    Reliable (configured []) := by decide +kernel

/-- Each cause of malformed input, at the first value beyond the legal ones. -/
theorem witness_MalformedInputIsRejected_configure : malformed (.configure 0 0 0 0) (idle []) ∧
    malformed (.configure 4 0 0 0) (idle []) ∧ malformed (.configure 1 2 0 0) (idle []) ∧
    malformed (.configure 1 0 8 0) (idle []) ∧ malformed (.configure 1 0 0 8) (idle []) := by
  refine ⟨.inl ?_, .inl ?_, .inr (.inl ?_), .inr (.inr (.inl ?_)), .inr (.inr (.inr ?_))⟩ <;> decide +kernel
theorem witness_MalformedInputIsRejected_counts : malformed (.rdcv 5 1) (idle []) ∧ malformed (.rdcv 0 0) (idle []) ∧
    malformed (.rdcv 0 17) (idle []) ∧ malformed (.rdaux 3 1) (idle []) ∧ malformed (.wrcfg 0 []) (idle []) ∧
    malformed (.rdcfg 17) (idle []) := by simp [malformed]
theorem witness_MalformedInputIsRejected_unconfigured : malformed (.samplev 1 (.count 0)) (idle []) ∧
    malformed (.sampleaux 0 .unbounded) (configured []) ∧ malformed .adcv (idle []) ∧ malformed .adax (idle []) :=
  ⟨.inr (.inr rfl), .inl (by decide), rfl, rfl⟩
theorem witness_MalformedInputIsRejected_hop :
    let s := { idle [] with host.requests := [[0x0D]] }
    (0x0C : Byte) < 0x0D ∧ (0x0C : Byte) < 0xFF ∧ s.bus.resetIn = none ∧ s.host.active = none ∧
    s.host.encSel = none ∧ s.host.requests = [[0x0D]] := by decide +kernel
theorem witness_StatusesOfEachOperation : isNext (exec (.rdcv 1 1) (idle blkA)) = true ∧ isNext (exec .encRdcva (idle [])) = true := by decide +kernel
/-- A request RDCV g=A, n=1 presented, the adapter and the reset as given: 16 moments on the bus, 14 of them
waiting, 18 with its two ends. -/
def presented (hang reset : Option Nat) : State :=
  { idle blkA with host.requests := [[0x03, 0x01, 0x01]], bus.hangIn := hang, bus.resetIn := reset }

theorem witness_HungAdapterStopsBusOperations : ∀ k ∈ [13, 14],
    (presented (some k) none).host.active = none ∧ fetch (presented (some k) none) = some (.ok (.rdcv 1 1)) ∧
    ¬ malformed (.rdcv 1 1) (presented (some k) none) ∧ (presented (some k) none).bus.hangIn = some k ∧
    (presented (some k) none).bus.resetIn = none ∧ (k < waitMoments (.rdcv 1 1) ↔ k = 13) := by
  intro k hk
  have hm : ¬ malformed (.rdcv 1 1) (presented (some k) none) := by simp [malformed]
  have h : ∀ k ∈ [13, 14], (k < waitMoments (.rdcv 1 1) ↔ k = 13) := by decide
  exact ⟨rfl, rfl, hm, rfl, rfl, h k hk⟩
theorem witness_HungAdapterStopsBusOperations_retry :
    let a : Sample := ⟨.aux, 1, .unbounded⟩
    let s := { configured [] with host.active := some a, bus.hangIn := some 27 }
    s.host.active = some a ∧ 1 ≤ a.n ∧ a.n ≤ 16 ∧ s.bus.hangIn = some 27 ∧ s.bus.resetIn = none ∧
    27 < attemptWaits a ∧ ¬ 28 < attemptWaits a := by decide +kernel
theorem witness_ResetFromAnyState : ({ configured blkA with bus.resetIn := some 0 } : State).bus.resetIn = some 0 := rfl
theorem witness_ResetInsideAnOperation : ∀ k ∈ [1, 17],
    (presented none (some k)).host.active = none ∧ fetch (presented none (some k)) = some (.ok (.rdcv 1 1)) ∧
    (presented none (some k)).bus.hangIn = none ∧ (presented none (some k)).bus.resetIn = some k ∧ 0 < k ∧
    ¬ malformed (.rdcv 1 1) (presented none (some k)) ∧ k < busMoments (.rdcv 1 1) + 2 := by
  intro k hk
  have hm : ¬ malformed (.rdcv 1 1) (presented none (some k)) := by simp [malformed]
  have h : ∀ k ∈ [1, 17], 0 < k ∧ k < busMoments (.rdcv 1 1) + 2 := by decide
  exact ⟨rfl, rfl, rfl, rfl, (h k hk).1, hm, (h k hk).2⟩
theorem witness_ResetInsideAnOperation_rejection :
    let s := { idle [] with host.requests := [[0x0D]], bus.resetIn := some 1 }
    s.host.active = none ∧ fetch s = some (.error (.undefinedHop 0x0D)) ∧ s.bus.resetIn = some 1 := ⟨rfl, rfl, rfl⟩
theorem witness_ResetInsideAnOperation_retry :
    let a : Sample := ⟨.aux, 1, .unbounded⟩
    let s := { configured [] with host.active := some a, bus.resetIn := some 33 }
    s.host.active = some a ∧ 1 ≤ a.n ∧ a.n ≤ 16 ∧ s.bus.hangIn = none ∧ s.bus.resetIn = some 33 ∧ 0 < 33 ∧
    33 < attemptMoments a + 2 := by decide +kernel
theorem witness_ResetAfterAnOperation :
    (presented none (some 18)).host.active = none ∧
    fetch (presented none (some 18)) = some (.ok (.rdcv 1 1)) ∧
    ¬ malformed (.rdcv 1 1) (presented none (some 18)) ∧ (presented none (some 18)).bus.hangIn = none ∧
    (presented none (some 18)).bus.resetIn = some 18 ∧ busMoments (.rdcv 1 1) + 2 ≤ 18 :=
  ⟨rfl, rfl, by simp [malformed], rfl, rfl, by decide⟩
theorem witness_ResetAfterAnOperation_retry :
    let a : Sample := ⟨.aux, 1, .unbounded⟩
    let s := { configured [] with host.active := some a, bus.resetIn := some 34 }
    s.host.active = some a ∧ 1 ≤ a.n ∧ a.n ≤ 16 ∧ s.bus.hangIn = none ∧ s.bus.resetIn = some 34 ∧
    attemptMoments a + 2 ≤ 34 := by decide +kernel
theorem witness_ResetEndsAHang : ∀ k ∈ [1, 18],
    (presented (some 2) (some k)).host.active = none ∧
    fetch (presented (some 2) (some k)) = some (.ok (.rdcv 1 1)) ∧
    ¬ malformed (.rdcv 1 1) (presented (some 2) (some k)) ∧
    (presented (some 2) (some k)).bus.hangIn = some 2 ∧ 2 < waitMoments (.rdcv 1 1) ∧
    (presented (some 2) (some k)).bus.resetIn = some k ∧ 0 < k ∧
    (busMoments (.rdcv 1 1) + 2 ≤ k ↔ k = 18) := by
  intro k hk
  have hm : ¬ malformed (.rdcv 1 1) (presented (some 2) (some k)) := by simp [malformed]
  have h : ∀ k ∈ [1, 18], 0 < k ∧ (busMoments (.rdcv 1 1) + 2 ≤ k ↔ k = 18) := by decide
  exact ⟨rfl, rfl, hm, rfl, by decide, rfl, (h k hk).1, (h k hk).2⟩
theorem witness_TransactionCounts : isNext (exec (.rdcv 1 1) (idle blkA)) = true ∧
    ¬ malformed (.rdcv 1 1) (idle blkA) ∧ (∀ b n m, Instr.rdcv 1 1 ≠ sampleInstr b n m) ∧
    isNext (exec (.rdcv 5 1) (idle blkA)) = true ∧ malformed (.rdcv 5 1) (idle blkA) := by
  refine ⟨by decide +kernel, by simp [malformed], fun b n m => by cases b <;> simp [sampleInstr],
    by decide +kernel, by simp [malformed]⟩
theorem witness_ConfigurationIsSticky :
    let s := { configured blkA with host.active := some ⟨.cell, 1, .unbounded⟩ }
    isNext (exec .adcv (configured [])) = true ∧ s.bus.resetIn = none ∧
    s.host.active = some ⟨.cell, 1, .unbounded⟩ ∧ isNext (step s) = true := by decide +kernel
theorem witness_OnlyReadsWritePecErr : isNext (exec (.wrcfg 1 [cfg0]) (idle [])) = true := by decide +kernel
theorem witness_WritersOfResultsAndSequencer :
    let s (b : Bank) := { configured (blkXA0 ++ blkXB0) with host.active := some ⟨b, 1, .unbounded⟩ }
    isNext (exec (.rdcfg 1) (idle blkK0)) = true ∧ ∀ b ∈ [Bank.cell, .aux],
      (s b).bus.resetIn = none ∧ (s b).host.active = some ⟨b, 1, .unbounded⟩ ∧ isNext (step (s b)) = true := by
  decide +kernel
theorem witness_ParametersAreConstant : isNext (step { idle [] with host.requests := [[0x0B]] }) = true := by
  decide +kernel
theorem witness_ReadResponseDependsOnBytesOnly :
    let s1 := idle blkA
    let s2 := { configured blkA with regs.pecErr := true, regs.rem := 7 }
    s1.par = s2.par ∧ (∀ i, s1.bus.byteAt i = s2.bus.byteAt i) ∧
    isNext (exec (.rdcv 1 1) s1) = true ∧ isNext (exec (.rdcv 1 1) s2) = true :=
  ⟨rfl, fun _ => rfl, by decide +kernel, by decide +kernel⟩
theorem witness_InvariantKeptByEveryStep :
    let s := { configured (blkA ++ blkB ++ blkCbad ++ blkD) with
      host.active := some ⟨.cell, 1, .count 2⟩, regs.orch := .read, regs.retries := 1 }
    StateInv s ∧ isNext (step s) = true := by decide +kernel
theorem witness_DecodeInvertsEncode : (Instr.configure 255 0 0 255).wellFormed = true ∧
    (Instr.wrcfg 1 [cfg0]).wellFormed = true ∧ (Instr.encAdcv 0 1 7).wellFormed = true := by decide
theorem witness_EachWordHasOneInstruction : decodeWord 0x03F7 = .ok (.encAdcv 3 1 7) := by rfl
theorem witness_StepRunsTheDecodedInstruction :
    let s := { idle [] with host.requests := [[0x09]] }
    s.bus.resetIn ≠ some 0 ∧ s.host.active = none ∧ fetchBytes s = some (.host, [0x09]) ∧
    decode .host [0x09] = .ok .adcv ∧ Reliable s := by
  refine ⟨?_, rfl, rfl, rfl, rfl, rfl⟩
  decide +kernel
theorem witness_StepRunsTheDecodedInstruction_wire :
    let s := { configured [] with host.encSel := some .adcv }
    s.bus.resetIn ≠ some 0 ∧ s.host.active = none ∧ fetchBytes s = some (.wire, [0x03, 0x60]) ∧
    decode .wire [0x03, 0x60] = .ok (.encAdcv 2 0 0) := by
  refine ⟨?_, rfl, ?_, rfl⟩ <;> decide +kernel
theorem witness_IdleStepChangesNothing :
    let s := { idle [] with bus.resetIn := some 1 }
    (idle []).host.active = none ∧ (idle []).host.encSel = none ∧ (idle []).host.requests = [] ∧
    (idle []).bus.resetIn = none ∧ s.host.active = none ∧ s.host.encSel = none ∧ s.host.requests = [] ∧
    s.bus.resetIn = some (0 + 1) := by decide +kernel
theorem witness_PlacedWordIsFetched : decodeTableWord 8 0x0C = some .clraux ∧
    decodeTableWord 16 0x04E0 = some (.encAdax 1 0) := by decide

end Sys2Proof.Tests
end

section
/-! Proofs about the checksum engine (40_checksum.md R93 to R95, R101, R102): the table step and the code in
natural-number arithmetic, the low bit of the code, and the two host operations. -/

namespace Sys2Proof.Machine

/-! ### The table step in numbers -/

/-- The shift by 7 is a division by 128, and the mask a remainder by 256 (40_checksum.md R93). -/
theorem pecIndex_eq_ofNat (rem : BitVec 16) (b : Byte) :
    pecIndex rem b = BitVec.ofNat 8 ((rem.toNat / 128 ^^^ b.toNat) % 256) := by
  have hxor (a c : Nat) : (a ^^^ c) % 256 = a % 256 ^^^ c % 256 := Nat.xor_mod_two_pow (n := 8)
  have hbyte : b.toNat % 256 = b.toNat := Nat.mod_eq_of_lt b.isLt
  apply BitVec.eq_of_toNat_eq
  simp [pecIndex, Nat.shiftRight_eq_div_pow, hxor, hbyte]

theorem pecStep_toNat (table : Vector (BitVec 16) 256) (rem : BitVec 16) (b : Byte) :
    (pecStep table rem b).toNat = (rem.toNat * 256 % 65536) ^^^
      (tableAt table (BitVec.ofNat 8 ((rem.toNat / 128 ^^^ b.toNat) % 256))).toNat := by
  simp only [pecStep, pecIndex_eq_ofNat, BitVec.toNat_xor, BitVec.toNat_shiftLeft, Nat.shiftLeft_eq]

theorem pec15_toNat (table : Vector (BitVec 16) 256) (bytes : List Byte) :
    (pec15 table bytes).toNat = (pecRem table bytes).toNat * 2 % 65536 := by
  simp [pec15, BitVec.toNat_mul]

/-- Settles O2: the seed by `pecRem_nil`, an appended byte by `pecStep_toNat`, the code by `pec15_toNat`. -/
theorem pecTableStep : Obligations.PecTableStep := by
  intro table bytes
  refine ⟨by simp, fun b => ?_, pec15_toNat table bytes⟩
  rw [pecRem_concat, pecStep_toNat]

/-! ### The low bit of the code -/

/-- The code is a remainder doubled, so it is even; reducing it mod 65536 keeps it so (40_checksum.md R94). -/
theorem pec15_getLsbD_zero (table : Vector (BitVec 16) 256) (bytes : List Byte) :
    (pec15 table bytes).getLsbD 0 = false := by
  have heven : (pec15 table bytes).toNat % 2 = 0 := by rw [pec15_toNat]; omega
  simp [BitVec.getLsbD, Nat.testBit_zero, heven]

/-- Settles O1. -/
theorem pecLowBitIsZero : Obligations.PecLowBitIsZero := pec15_getLsbD_zero

/-! ### The code of short sequences -/

theorem pec15_nil (table : Vector (BitVec 16) 256) : pec15 table [] = 0x0020 := by
  rw [pec15, pecRem_nil]; rfl

/-- From the seed, a zero byte reads entry 0 of the table. -/
theorem pecRem_singleton_zero (table : Vector (BitVec 16) 256) :
    pecRem table [0x00] = 0x1000 ^^^ tableAt table 0 := by
  have hidx : pecIndex 0x0010 0x00 = 0 := by decide
  rw [← List.nil_append [0x00], pecRem_concat, pecRem_nil, pecStep, hidx]
  rfl

theorem pec15_singleton_zero (table : Vector (BitVec 16) 256) (h : tableAt table 0 = 0) :
    pec15 table [0x00] = 0x2000 := by
  rw [pec15, pecRem_singleton_zero, h]; rfl

/-- The worked example of 40_checksum.md R101, with the default table. -/
theorem pec15_default_zero_one : pec15 Config.table [0x00, 0x01] = 0x3D6E := by decide +kernel

/-! ### The comparison -/

theorem pecverify_eq_decide (table : Vector (BitVec 16) 256) (bytes : List Byte) (expected : Code) :
    pecverify table bytes expected = decide (pec15 table bytes = expected) := rfl

theorem pecverify_eq_false_of_low_bit (table : Vector (BitVec 16) 256) (bytes : List Byte) (expected : Code)
    (hbit : expected.getLsbD 0 = true) : pecverify table bytes expected = false := by
  rw [pecverify_eq_decide, decide_eq_false_iff_not]
  rintro rfl
  exact Bool.false_ne_true ((pec15_getLsbD_zero table bytes).symm.trans hbit)

/-! ### The host operations -/

/-- Running the checksum and delivering a response writes REM and appends the response, and nothing else. -/
theorem runPec_respond (bytes : List Byte) (st : Status) (p : Payload) (s : State) :
    (s.runPec bytes).respond st p = { s with
      regs.rem := pecRem s.par.table bytes
      host.responses := s.host.responses ++ [⟨st, p⟩] } := rfl

theorem exec_peccomp (bytes : List Byte) (s : State) :
    exec (.peccomp bytes) s =
      .next ((s.runPec bytes).respond .ok (.code (pec15 s.par.table bytes))) := rfl

theorem exec_pecverify (bytes : List Byte) (expected : Code) (s : State) :
    exec (.pecverify bytes expected) s =
      .next ((s.runPec bytes).respond .ok (.matched (pecverify s.par.table bytes expected))) := rfl

/-- Settles O8. -/
theorem peccompResult : Obligations.PeccompResult := by
  refine ⟨fun bytes s => ?_, pec15_nil, pec15_singleton_zero, pec15_default_zero_one, fun _ => rfl⟩
  rw [exec_peccomp, runPec_respond]

/-- Settles O9. The unequal example is the odd code next to the matching one (40_checksum.md R95). -/
theorem pecverifyResult : Obligations.PecverifyResult := by
  refine ⟨fun bytes expected s => ?_, pecverify_eq_false_of_low_bit, fun table => ?_, ?_, ?_, fun _ _ => rfl⟩
  · rw [exec_pecverify, runPec_respond, pecverify_eq_decide]
  · rw [pecverify_eq_decide, decide_eq_true_iff, pec15_nil]
  · rw [pecverify_eq_decide, decide_eq_true_iff, pec15_default_zero_one]
  · exact pecverify_eq_false_of_low_bit _ _ _ (by decide)

end Sys2Proof.Machine
end

section
/-! Proofs about the ten fixed encoders (41_command_encoder.md R114 to R123): which command each one encodes, what it
leaves in the state for any parameters, and the frames at the default parameters. -/

namespace Sys2Proof.Machine

/-- The wire command whose fixed word an encoder instruction sends; none for every other instruction, the two
conversion encoders among them, whose words carry sticky fields. -/
def fixedEncoderCommand : Instr → Option WireCmd
  | .encRdcva => some .rdcva
  | .encRdcvb => some .rdcvb
  | .encRdcvc => some .rdcvc
  | .encRdcvd => some .rdcvd
  | .encRdauxa => some .rdauxa
  | .encRdauxb => some .rdauxb
  | .encRdcfg => some .rdcfg
  | .encWrcfg => some .wrcfg
  | .encClrcell => some .clrcell
  | .encClraux => some .clraux
  | _ => none

/-- A fixed encoder, for any parameters: it returns the frame of its own `OPC_*` word, reads no register and writes
REM only (41_command_encoder.md R111). One case per rule R114 to R123. -/
theorem exec_fixedEncoder : ∀ {i : Instr} {c : WireCmd}, fixedEncoderCommand i = some c → ∀ s : State,
    exec i s = .next { s with
      regs.rem := pecRem s.par.table (opcodeBytes (opcode s.par c))
      host.encOut := frame s.par.table (opcode s.par c) }
  | .encRdcva, _, rfl, _ => rfl
  | .encRdcvb, _, rfl, _ => rfl
  | .encRdcvc, _, rfl, _ => rfl
  | .encRdcvd, _, rfl, _ => rfl
  | .encRdauxa, _, rfl, _ => rfl
  | .encRdauxb, _, rfl, _ => rfl
  | .encRdcfg, _, rfl, _ => rfl
  | .encWrcfg, _, rfl, _ => rfl
  | .encClrcell, _, rfl, _ => rfl
  | .encClraux, _, rfl, _ => rfl

theorem frame_take_two (table : Vector (BitVec 16) 256) (w : Code) :
    (frame table w).take 2 = opcodeBytes w := rfl

theorem opcode_eq_default {p : Params} (h : p.opc = Config.opc) (c : WireCmd) :
    opcode p c = opcode Config.params c := by
  rw [opcode, h]; rfl

/-- Settles O14. The frames listed are those of the encoders' default words, ten closed checksums; that they stand in
every state is `exec_fixedEncoder`. -/
theorem fixedEncoderFrames : Obligations.FixedEncoderFrames := by
  refine ⟨fun s htable hopc e he => ?_, rfl, rfl, rfl⟩
  have hlisted : (fixedEncoderCommand e.1).map (fun c => frame Config.table (opcode Config.params c)) =
      some e.2 := by
    revert e
    decide +kernel
  obtain ⟨c, hc, hframe⟩ := Option.map_eq_some_iff.mp hlisted
  rw [exec_fixedEncoder hc, htable, opcode_eq_default hopc, ← hframe, frame_take_two]

end Sys2Proof.Machine
end

section
/-! Proofs about one transaction (42_register_access.md R140) and the operations that are one command and nothing
else (R151 to R154): what a transaction leaves at the two ports and in the buffers, and which operands every operation
rejects. -/

namespace Sys2Proof.Machine

/-! ### Words and buffers -/

theorem wordOfBytes_toNat (hi lo : Byte) : (wordOfBytes hi lo).toNat = lo.toNat + 256 * hi.toNat := by
  have hlo : lo.toNat < 2 ^ 8 := lo.isLt
  rw [wordOfBytes, BitVec.toNat_append, ← Nat.shiftLeft_add_eq_or_of_lt hlo, Nat.shiftLeft_eq]
  omega

/-- Settles O16. The second byte of each pair is the high byte of its code. -/
theorem channelCodesAreLittleEndian : Obligations.ChannelCodesAreLittleEndian :=
  fun _ _ _ _ => wordOfBytes_toNat _ _

theorem vector_eq_of_bufByte_eq {m : Nat} {buf buf' : Vector Byte m}
    (h : ∀ i, bufByte buf i = bufByte buf' i) : buf = buf' := by
  ext i hi : 1
  simpa [bufByte, hi] using h i

theorem memWrite_nil {m : Nat} (buf : Vector Byte m) (a : Nat) : memWrite buf a [] = buf :=
  vector_eq_of_bufByte_eq fun i => by
    rw [bufByte_memWrite, if_neg (by rintro ⟨ha, hi, -⟩; simp at hi; omega)]

/-- A write at the start of a buffer leaves the bytes after it. -/
theorem bufByte_memWrite_zero_of_le {m : Nat} (buf : Vector Byte m) {bytes : List Byte} {i : Nat}
    (h : bytes.length ≤ i) : bufByte (memWrite buf 0 bytes) i = bufByte buf i := by
  rw [bufByte_memWrite, if_neg (by omega)]

theorem State.txBytes_eq_map (s : State) :
    s.txBytes = (List.range s.regs.txlen.toNat).map fun i => bufByte s.regs.txbuf i := by
  simp [State.txBytes, memRead]

/-! ### The transport port after some traffic -/

@[simp] theorem BusPort.answer_zero (b : BusPort) : b.answer 0 = [] := rfl

@[simp] theorem BusPort.afterTraffic_trace (b : BusPort) (evs : List BusEvent) (k : Nat) :
    (b.afterTraffic evs k).trace = b.trace ++ evs := rfl

/-- Traffic after traffic: the events and the bytes received add up. -/
theorem BusPort.afterTraffic_afterTraffic (b : BusPort) (evs evs' : List BusEvent) (k k' : Nat) :
    (b.afterTraffic evs k).afterTraffic evs' k' = b.afterTraffic (evs ++ evs') (k + k') := by
  have hdraws : b.draws + (k - b.link.length) + (k' - (b.link.length - k)) =
      b.draws + (k + k' - b.link.length) := by omega
  simp [BusPort.afterTraffic, List.drop_drop, hdraws]

@[simp] theorem transaction_length (kind : WakeKind) (tx rx : List Byte) :
    (transaction kind tx rx).length = 4 := rfl

/-! ### One transaction -/

/-- `transact_eq` with the transport port as a whole. -/
theorem transact_eq_afterTraffic (c : WireCmd) (k : Nat) (s : State) :
    transact c k s = { s with
      regs.rxbuf := memWrite s.regs.rxbuf 0 (s.bus.answer k)
      regs.rxlen := BitVec.ofNat 8 k
      bus := s.bus.afterTraffic (transaction (wakeKind s.par c) s.txBytes (s.bus.answer k)) k } :=
  transact_eq c k s

/-- Settles O18: `transact_eq` with the bytes of RXBUF told apart by `bufByte_memWrite`. -/
theorem transactionEvents : Obligations.TransactionEvents := by
  intro c k s hk
  refine ⟨memWrite s.regs.rxbuf 0 (s.bus.answer k), ?_, fun i hi => ?_, fun i hi => ?_⟩
  · rw [transact_eq, State.txBytes_eq_map]
    rfl
  · rw [bufByte_memWrite, if_pos (by simp; omega), List.getD_eq_getElem?_getD, BusPort.answer_getElem?,
      Nat.sub_zero, if_pos hi, Option.getD_some]
  · exact bufByte_memWrite_zero_of_le _ (by simpa using hi)

/-- The frame of a command, then one transaction that sends it: the whole bus traffic of every operation but the write
burst (42_register_access.md R144, R149, R151 to R154). -/
theorem transact_loadFrame (c : WireCmd) (k : Nat) (s : State) :
    transact c k (loadFrame c s) = { s with
      regs.rem := pecRem s.par.table (opcodeBytes (commandWord c s))
      regs.txbuf := memWrite s.regs.txbuf 0 (frame s.par.table (commandWord c s))
      regs.txlen := 4
      regs.rxbuf := memWrite s.regs.rxbuf 0 (s.bus.answer k)
      regs.rxlen := BitVec.ofNat 8 k
      bus := s.bus.afterTraffic
        (transaction (wakeKind s.par c) (frame s.par.table (commandWord c s)) (s.bus.answer k)) k } := by
  rw [transact_eq_afterTraffic, loadFrame_txBytes, loadFrame_eq]

/-- A command-only transaction receives nothing, so RXBUF and the environment's stream stay. -/
theorem sendCommand_eq (c : WireCmd) (s : State) :
    sendCommand c s = { s with
      regs.rem := pecRem s.par.table (opcodeBytes (commandWord c s))
      regs.txbuf := memWrite s.regs.txbuf 0 (frame s.par.table (commandWord c s))
      regs.txlen := 4
      regs.rxlen := 0
      bus.cs := false
      bus.trace := s.bus.trace ++ commandTrace s c } := by
  rw [sendCommand, transact_loadFrame, BusPort.answer_zero, memWrite_nil]
  simp [BusPort.afterTraffic, commandTrace]

/-! ### Rejected and accepted operands -/

theorem raiseConfigError_eq (s : State) :
    raiseConfigError s = { s with host.responses := s.host.responses ++ [⟨.configError, .absent⟩] } := rfl

theorem legalCount_eq_false_iff (n : Nat) : legalCount n = false ↔ n < 1 ∨ 16 < n := by
  rw [legalCount, decide_eq_false_iff_not, maxDev]
  omega

theorem legalCount_eq_true {n : Nat} (h1 : 1 ≤ n) (h16 : n ≤ 16) : legalCount n = true :=
  decide_eq_true ⟨h1, h16⟩

theorem legalSelector_eq_true {b : Bank} {g : Nat} (hg : g ≤ b.groups) : legalSelector b g = true :=
  decide_eq_true hg

theorem legalSelector_and_legalCount_eq_false (b : Bank) (g n : Nat) (h : b.groups < g ∨ n < 1 ∨ 16 < n) :
    (legalSelector b g && legalCount n) = false := by
  obtain hg | hn := h
  · rw [legalSelector, decide_eq_false (by omega), Bool.false_and]
  · rw [(legalCount_eq_false_iff n).mpr hn, Bool.and_false]

theorem legalConfig_eq_false (p : Params) (mode dcp ch chg : Nat)
    (h : (mode ≠ p.modeFast.toNat ∧ mode ≠ p.modeNormal.toNat ∧ mode ≠ p.modeFiltered.toNat) ∨
      1 < dcp ∨ 7 < ch ∨ 7 < chg) : legalConfig p mode dcp ch chg = false := by
  simp only [legalConfig, legalMode, Bool.and_eq_false_iff, decide_eq_false_iff_not]
  omega

theorem legalSample_eq_false (n : Nat) (s : State) (h : n < 1 ∨ 16 < n ∨ s.regs.cfgValid = false) :
    legalSample n s = false := by
  rw [legalSample, Bool.and_eq_false_iff, legalCount_eq_false_iff]
  tauto

/-- Malformed caller input is answered with ST_CONFIG_ERROR, whatever the operation (60_exceptions.md R193). -/
theorem exec_of_malformed {i : Instr} {s : State} (h : malformed i s) :
    exec i s = .next (raiseConfigError s) := by
  cases i with
  | configure mode dcp ch chg => exact if_neg (by simp [legalConfig_eq_false s.par mode dcp ch chg h])
  | rdcv g n => exact if_neg (by simp [legalSelector_and_legalCount_eq_false .cell g n h])
  | rdaux g n => exact if_neg (by simp [legalSelector_and_legalCount_eq_false .aux g n h])
  | wrcfg n blocks => exact if_neg (by simp [(legalCount_eq_false_iff n).mpr h])
  | rdcfg n => exact if_neg (by simp [(legalCount_eq_false_iff n).mpr h])
  | samplev n m => exact if_neg (by simp [legalSample_eq_false n s h])
  | sampleaux n m => exact if_neg (by simp [legalSample_eq_false n s h])
  | adcv => exact if_neg (Bool.not_eq_true _ ▸ h)
  | adax => exact if_neg (Bool.not_eq_true _ ▸ h)
  | _ => exact h.elim

theorem exec_rdcv_of_legal {g n : Nat} (hg : g ≤ 4) (h1 : 1 ≤ n) (h16 : n ≤ 16) (s : State) :
    exec (.rdcv g n) s = .next (readCall .cell g n s) :=
  if_pos (by rw [legalSelector_eq_true (b := .cell) hg, legalCount_eq_true h1 h16]; rfl)

theorem exec_rdaux_of_legal {g n : Nat} (hg : g ≤ 2) (h1 : 1 ≤ n) (h16 : n ≤ 16) (s : State) :
    exec (.rdaux g n) s = .next (readCall .aux g n s) :=
  if_pos (by rw [legalSelector_eq_true (b := .aux) hg, legalCount_eq_true h1 h16]; rfl)

theorem exec_rdcfg_of_legal {n : Nat} (h1 : 1 ≤ n) (h16 : n ≤ 16) (s : State) :
    exec (.rdcfg n) s = .next (readCfgCall n s) := if_pos (legalCount_eq_true h1 h16)

theorem exec_wrcfg_of_legal {n : Nat} (h1 : 1 ≤ n) (h16 : n ≤ 16) (blocks : List (Vector Byte 6)) (s : State) :
    exec (.wrcfg n blocks) s = .next ((transact .wrcfg 0 (loadBurst n blocks s)).respond .ok .absent) :=
  if_pos (legalCount_eq_true h1 h16)

/-! ### The four command-only operations -/

/-- The wire command an operation sends when it is one command and nothing else (42_register_access.md R151 to
R154). -/
def soleCommand : Instr → Option WireCmd
  | .adcv => some .adcv
  | .adax => some .adax
  | .clrcell => some .clrcell
  | .clraux => some .clraux
  | _ => none

/-- The two conversion commands need a configuration, the two clears do not. -/
theorem not_malformed_of_soleCommand {i : Instr} {c : WireCmd} (hc : soleCommand i = some c) {s : State}
    (h : s.regs.cfgValid = true ∨ c = .clrcell ∨ c = .clraux) : ¬ malformed i s := by
  cases i with
  | adcv => cases hc; simpa [malformed] using h
  | adax => cases hc; simpa [malformed] using h
  | clrcell => exact id
  | clraux => exact id
  | _ => cases hc

theorem exec_soleCommand {i : Instr} {c : WireCmd} (hc : soleCommand i = some c) {s : State}
    (h : ¬ malformed i s) : exec i s = .next ((sendCommand c s).respond .ok .absent) := by
  cases i with
  | adcv => cases hc; exact if_pos (Bool.not_eq_false _ ▸ h)
  | adax => cases hc; exact if_pos (Bool.not_eq_false _ ▸ h)
  | clrcell => cases hc; rfl
  | clraux => cases hc; rfl
  | _ => cases hc

/-- Settles O23. The four example frames are closed checksums with the default table. -/
theorem commandOperations : Obligations.CommandOperations := by
  refine ⟨fun e s he hcfg => ?_, fun i s hi hcfg => ?_, rfl, rfl, rfl, rfl, ?_, ?_, ?_, ?_⟩
  · have hc : soleCommand e.1 = some e.2 := by clear hcfg; revert e; decide
    rw [exec_soleCommand hc (not_malformed_of_soleCommand hc hcfg), sendCommand_eq]
    rfl
  · refine exec_of_malformed ?_
    obtain rfl | rfl := hi <;> exact hcfg
  all_goals decide +kernel

end Sys2Proof.Machine
end

section
/-! Proofs about the group reads of the chain (42_register_access.md R143 to R147): what reading the groups of a
selector leaves in the state, one fact for each part of it. -/

namespace Sys2Proof.Machine

/-! ### Result arrays and blocks -/

theorem vector_eq_of_slotAt_eq {w r c : Nat} {a a' : Vector (Vector (BitVec w) c) r}
    (h : ∀ d k, slotAt a d k = slotAt a' d k) : a = a' := by
  ext d hd k hk : 2
  simpa [slotAt, hd, hk] using h d k

theorem streamBlock_congr {b b' : BusPort} {pos pos' : Nat} (h : ∀ i, b.byteAt (pos + i) = b'.byteAt (pos' + i)) :
    streamBlock b pos = streamBlock b' pos' := by
  simp only [streamBlock, h]

theorem streamBlock_getD (b : BusPort) (pos : Nat) {j : Nat} (hj : j < 8) :
    (streamBlock b pos).getD j 0 = b.byteAt (pos + j) := by
  simp [streamBlock, hj]

@[simp] theorem readTransaction_length (s : State) (n j : Nat) (c : WireCmd) :
    (readTransaction s n j c).length = 4 := rfl

theorem readTrace_concat (s : State) (n : Nat) (cs : List WireCmd) (c : WireCmd) :
    readTrace s n (cs ++ [c]) = readTrace s n cs ++ readTransaction s n cs.length c := by
  simp [readTrace, List.zipIdx_append]

theorem readTrace_length (s : State) (n : Nat) (cs : List WireCmd) :
    (readTrace s n cs).length = 4 * cs.length := by
  induction cs using List.reverseRecOn with
  | nil => rfl
  | append_singleton cs c ih => simp [readTrace_concat, ih]; omega

theorem anyMismatch_succ (p : Params) (b : BusPort) (k n : Nat) :
    anyMismatch p b (k + 1) n = (anyMismatch p b k n ||
      (List.range n).any fun d => mismatch p.table (streamBlock b (blockPos n k d))) := by
  simp [anyMismatch, List.range_succ]

/-! ### What a read may write -/

/-- The registers `r` with those that some read of the chain writes taken from `r'`: REM, PEC_ERR, the three result
arrays and the two buffers with their lengths. -/
def Regs.withRead (r r' : Regs) : Regs :=
  { r with
    rem := r'.rem, pecErr := r'.pecErr, cell := r'.cell, aux := r'.aux, cfgrx := r'.cfgrx
    txbuf := r'.txbuf, txlen := r'.txlen, rxbuf := r'.rxbuf, rxlen := r'.rxlen }

/-- From `s` to `t` nothing changed but what a read of the chain may write and the transport port. -/
structure ReadFrame (s t : State) : Prop where
  regs : t.regs = s.regs.withRead t.regs
  host : t.host = s.host
  past : t.past = s.past
  par : t.par = s.par

theorem ReadFrame.refl (s : State) : ReadFrame s s := ⟨rfl, rfl, rfl, rfl⟩

theorem ReadFrame.trans {s t u : State} (h : ReadFrame s t) (h' : ReadFrame t u) : ReadFrame s u where
  regs := calc
    u.regs = t.regs.withRead u.regs := h'.regs
    _ = (s.regs.withRead t.regs).withRead u.regs := congrArg (Regs.withRead · u.regs) h.regs
    _ = s.regs.withRead u.regs := rfl
  host := h'.host.trans h.host
  past := h'.past.trans h.past
  par := h'.par.trans h.par

theorem readFrame_setPecErr (v : Bool) (s : State) : ReadFrame s (s.setPecErr v) := ⟨rfl, rfl, rfl, rfl⟩

theorem readFrame_transact_loadFrame (c : WireCmd) (k : Nat) (s : State) :
    ReadFrame s (transact c k (loadFrame c s)) := by
  rw [transact_loadFrame]
  exact ⟨rfl, rfl, rfl, rfl⟩

theorem readFrame_readDevices (b : Bank) (gi n : Nat) (s : State) :
    ReadFrame s ((List.range n).foldl (readDevice b gi) s) := by
  rw [readDevices_eq]
  exact ⟨rfl, rfl, rfl, rfl⟩

/-! ### One group read -/

theorem readFrame_readOne (b : Bank) (n : Nat) (s : State) (gi : Nat) : ReadFrame s (readOne b n s gi) :=
  (readFrame_transact_loadFrame _ _ s).trans (readFrame_readDevices b gi n _)

/-- The transport port and the two buffers after one group read are those of its transaction. -/
theorem readOne_transaction (b : Bank) (n : Nat) (s : State) (gi : Nat) :
    let t := readOne b n s gi
    t.regs.txbuf = memWrite s.regs.txbuf 0 (frame s.par.table (opcode s.par (readCommand b gi))) ∧
    t.regs.txlen = 4 ∧ t.regs.rxbuf = memWrite s.regs.rxbuf 0 (s.bus.answer (8 * n)) ∧
    t.regs.rxlen = BitVec.ofNat 8 (8 * n) ∧
    t.bus = s.bus.afterTraffic (readTransaction s n 0 (readCommand b gi)) (8 * n) := by
  rw [readOne, readDevices_eq, transact_loadFrame, commandWord_readCommand]
  simp [readTransaction, BusPort.answer]

/-! ### The group reads of one call -/

theorem readOnes_concat (b : Bank) (n : Nat) (gis : List Nat) (gi : Nat) (s : State) :
    (gis ++ [gi]).foldl (readOne b n) s = readOne b n (gis.foldl (readOne b n) s) gi := by simp

theorem readFrame_readOnes (b : Bank) (n : Nat) (gis : List Nat) (s : State) :
    ReadFrame s (gis.foldl (readOne b n) s) := by
  induction gis using List.reverseRecOn with
  | nil => exact .refl s
  | append_singleton gis gi ih => rw [readOnes_concat]; exact ih.trans (readFrame_readOne b n _ gi)

theorem readOnes_cfgrx (b : Bank) (n : Nat) (gis : List Nat) (s : State) :
    (gis.foldl (readOne b n) s).regs.cfgrx = s.regs.cfgrx := by
  induction gis using List.reverseRecOn with
  | nil => rfl
  | append_singleton gis gi ih =>
    obtain ⟨-, -, -, -, -, hcfgrx, -⟩ := readOne_frame b n (gis.foldl (readOne b n) s) gi
    rw [readOnes_concat, hcfgrx, ih]

theorem readOnes_par (b : Bank) (n : Nat) (gis : List Nat) (s : State) :
    (gis.foldl (readOne b n) s).par = s.par :=
  (readFrame_readOnes b n gis s).par

/-- Each group read takes `8n` bytes of the environment's stream. -/
theorem readOnes_byteAt (b : Bank) (n : Nat) (gis : List Nat) (s : State) (i : Nat) :
    (gis.foldl (readOne b n) s).bus.byteAt i = s.bus.byteAt (8 * n * gis.length + i) := by
  induction gis using List.reverseRecOn generalizing i with
  | nil => simp
  | append_singleton gis gi ih =>
    rw [readOnes_concat, readOne_byteAt, ih, List.length_append, List.length_singleton]
    congr 1
    ring

/-- So what a group read finds is what the stream had further on before the call. -/
theorem readOnes_streamBlock (b : Bank) (n : Nat) (gis : List Nat) (s : State) (d : Nat) :
    streamBlock (gis.foldl (readOne b n) s).bus (8 * d) = streamBlock s.bus (blockPos n gis.length d) :=
  streamBlock_congr fun i => by rw [readOnes_byteAt, blockPos, Nat.add_assoc]

theorem readOnes_readTransaction (b : Bank) (n : Nat) (gis : List Nat) (s : State) (c : WireCmd) :
    readTransaction (gis.foldl (readOne b n) s) n 0 c = readTransaction s n gis.length c := by
  simp [readTransaction, readOnes_byteAt, readOnes_par]

/-- The call makes one transaction for each group, in order. -/
theorem readOnes_bus (b : Bank) (n : Nat) {gis : List Nat} (hgis : gis ≠ []) (s : State) :
    (gis.foldl (readOne b n) s).bus =
      s.bus.afterTraffic (readTrace s n (gis.map (readCommand b))) (8 * n * gis.length) := by
  induction gis using List.reverseRecOn with
  | nil => exact absurd rfl hgis
  | append_singleton gis gi ih =>
    obtain ⟨-, -, -, -, hbus⟩ := readOne_transaction b n (gis.foldl (readOne b n) s) gi
    rw [readOnes_concat, hbus, readOnes_readTransaction, List.map_append, List.map_singleton, readTrace_concat,
      List.length_map, List.length_append, List.length_singleton, Nat.mul_add, Nat.mul_one]
    by_cases hnil : gis = []
    · subst hnil
      simp [readTrace]
    · rw [ih hnil, BusPort.afterTraffic_afterTraffic]

theorem readOnes_lengths (b : Bank) (n : Nat) {gis : List Nat} (hgis : gis ≠ []) (s : State) :
    (gis.foldl (readOne b n) s).regs.txlen = 4 ∧
    (gis.foldl (readOne b n) s).regs.rxlen = BitVec.ofNat 8 (8 * n) := by
  obtain ⟨gis, gi, rfl⟩ := (List.eq_nil_or_concat gis).resolve_left hgis
  obtain ⟨-, htxlen, -, hrxlen, -⟩ := readOne_transaction b n (gis.foldl (readOne b n) s) gi
  rw [List.concat_eq_append, readOnes_concat]
  exact ⟨htxlen, hrxlen⟩

/-- PEC_ERR tells whether it was set before or a block of any of the transactions does not match. -/
theorem readOnes_pecErr (b : Bank) {n : Nat} (hn : n ≤ 16) (gis : List Nat) (s : State) :
    (gis.foldl (readOne b n) s).regs.pecErr = (s.regs.pecErr || anyMismatch s.par s.bus gis.length n) := by
  induction gis using List.reverseRecOn with
  | nil => simp [anyMismatch]
  | append_singleton gis gi ih =>
    rw [readOnes_concat, readOne_pecErr _ _ hn, ih, List.length_append, List.length_singleton, anyMismatch_succ,
      ← Bool.or_assoc, readOnes_par]
    simp only [readOnes_streamBlock]

/-- The slots of the groups read hold the codes of the transaction that read them, every other slot what it held. -/
theorem readOnes_codeAt (b b' : Bank) {n : Nat} (hn : n ≤ 16) {gis : List Nat} (hnodup : gis.Nodup) (s : State)
    (d c : Nat) :
    (gis.foldl (readOne b n) s).codeAt b' d c =
      if b' = b ∧ d < n ∧ c / 3 ∈ gis ∧ c < b.channels
      then codeOf (streamBlock s.bus (blockPos n (gis.idxOf (c / 3)) d)) (c % 3) else s.codeAt b' d c := by
  induction gis using List.reverseRecOn with
  | nil => simp
  | append_singleton gis gi ih =>
    obtain ⟨hgis, -, hgi⟩ := List.nodup_append.mp hnodup
    rw [readOnes_concat, readOne_codeAt _ _ _ hn, ih hgis, readOnes_streamBlock]
    by_cases hlast : c / 3 = gi
    · have hnew : gi ∉ gis := fun h => hgi gi h gi (by simp) rfl
      have hrange : 3 * gi ≤ c ∧ c < 3 * gi + 3 := by omega
      have hk : c - 3 * gi = c % 3 := by omega
      simp [hlast, hnew, hrange, hk, List.idxOf_append]
    · have hrange : ¬ (3 * gi ≤ c ∧ c < 3 * gi + 3) := by omega
      rw [if_neg (by tauto)]
      by_cases hmem : c / 3 ∈ gis <;> simp [hlast, hmem, List.idxOf_append]

/-- A read of one bank leaves the array of the other. -/
theorem readOnes_other_codeAt {b b' : Bank} (hb : b' ≠ b) {n : Nat} (hn : n ≤ 16) (gis : List Nat) (s : State)
    (d c : Nat) : (gis.foldl (readOne b n) s).codeAt b' d c = s.codeAt b' d c := by
  induction gis using List.reverseRecOn with
  | nil => rfl
  | append_singleton gis gi ih => rw [readOnes_concat, readOne_codeAt _ _ _ hn, if_neg (by tauto), ih]

/-- The bytes of the two buffers that no transaction of the call reaches. -/
theorem readOnes_buffers (b : Bank) (n : Nat) (gis : List Nat) (s : State) :
    (∀ i, 4 ≤ i → bufByte (gis.foldl (readOne b n) s).regs.txbuf i = bufByte s.regs.txbuf i) ∧
    (∀ i, 8 * n ≤ i → bufByte (gis.foldl (readOne b n) s).regs.rxbuf i = bufByte s.regs.rxbuf i) := by
  induction gis using List.reverseRecOn with
  | nil => exact ⟨fun _ _ => rfl, fun _ _ => rfl⟩
  | append_singleton gis gi ih =>
    obtain ⟨ihtx, ihrx⟩ := ih
    obtain ⟨htx, -, hrx, -⟩ := readOne_transaction b n (gis.foldl (readOne b n) s) gi
    rw [readOnes_concat, htx, hrx]
    refine ⟨fun i hi => ?_, fun i hi => ?_⟩
    · rw [bufByte_memWrite_zero_of_le _ (by simpa using hi), ihtx i hi]
    · rw [bufByte_memWrite_zero_of_le _ (by simpa using hi), ihrx i hi]

/-! ### The groups a selector names -/

theorem selectedGroups_ne_nil (b : Bank) (g : Nat) : selectedGroups b g ≠ [] := by
  unfold selectedGroups
  split_ifs
  · cases b <;> decide
  · exact List.cons_ne_nil _ _

theorem selectedGroups_length (b : Bank) (g : Nat) :
    (selectedGroups b g).length = if g = 0 then b.groups else 1 := by
  unfold selectedGroups
  split_ifs <;> simp

theorem selectedGroups_nodup (b : Bank) (g : Nat) : (selectedGroups b g).Nodup := by
  unfold selectedGroups
  split_ifs
  · exact List.nodup_range
  · exact List.nodup_singleton _

theorem mem_selectedGroups (b : Bank) (g : Nat) {gi : Nat} (hgi : gi < b.groups) :
    gi ∈ selectedGroups b g ↔ g = 0 ∨ gi = g - 1 := by
  unfold selectedGroups
  split_ifs with h <;> simp [h, hgi]

/-- ALL reads group `gi` in transaction `gi`; a single group is read in the only one. -/
theorem idxOf_selectedGroups (b : Bank) (g : Nat) {gi : Nat} (hgi : gi < b.groups) (hsel : g = 0 ∨ gi = g - 1) :
    (selectedGroups b g).idxOf gi = if g = 0 then gi else 0 := by
  unfold selectedGroups
  split_ifs with h
  · have hidx := (List.nodup_range (n := b.groups)).idxOf_getElem gi (by simpa using hgi)
    rwa [List.getElem_range] at hidx
  · rw [hsel.resolve_left h, List.idxOf_cons_self]

theorem map_readCommand_selectedGroups (b : Bank) {g : Nat} (hg : g ≤ b.groups) :
    (selectedGroups b g).map (readCommand b) = selectedCommands b g := by
  cases b <;> (simp only [Bank.groups] at hg; interval_cases g <;> rfl)

theorem selectedCommands_length (b : Bank) {g : Nat} (hg : g ≤ b.groups) :
    (selectedCommands b g).length = if g = 0 then b.groups else 1 := by
  rw [← map_readCommand_selectedGroups b hg, List.length_map, selectedGroups_length]

theorem selectedChannels_eq (b : Bank) (g : Nat) :
    selectedChannels b g =
      if g = 0 then List.range b.channels else [3 * (g - 1), 3 * (g - 1) + 1, 3 * (g - 1) + 2] := by
  unfold selectedChannels selectedGroups
  split_ifs
  · cases b <;> rfl
  · rfl

/-! ### One read call -/

theorem codeAt_respond (b : Bank) (d c : Nat) (st : Status) (p : Payload) (s : State) :
    (s.respond st p).codeAt b d c = s.codeAt b d c := by cases b <;> rfl

theorem codeAt_setPecErr (b : Bank) (d c : Nat) (v : Bool) (s : State) :
    (s.setPecErr v).codeAt b d c = s.codeAt b d c := by cases b <;> rfl

theorem readFrame_readGroups (b : Bank) (gis : List Nat) (n : Nat) (s : State) :
    ReadFrame s (readGroups b gis n s) :=
  (readFrame_setPecErr false s).trans (readFrame_readOnes b n gis _)

theorem readCall_codeAt (b : Bank) (g : Nat) {n : Nat} (hn : n ≤ 16) (s : State) (d : Nat) {c : Nat}
    (hc : c < b.channels) :
    (readCall b g n s).codeAt b d c =
      if d < n ∧ (g = 0 ∨ c / 3 = g - 1)
      then codeOf (streamBlock s.bus (blockPos n (if g = 0 then c / 3 else 0) d)) (c % 3)
      else s.codeAt b d c := by
  have hgroup : c / 3 < b.groups := by rw [Bank.channels] at hc; omega
  rw [readCall, codeAt_respond, readGroups, readOnes_codeAt b b hn (selectedGroups_nodup b g), codeAt_setPecErr]
  simp only [true_and, hc, and_true, mem_selectedGroups b g hgroup, State.setPecErr_bus]
  by_cases h : d < n ∧ (g = 0 ∨ c / 3 = g - 1)
  · rw [if_pos h, if_pos h, idxOf_selectedGroups b g hgroup h.2]
  · rw [if_neg h, if_neg h]

/-- The array of the other bank is not touched. -/
theorem readCall_other_codeAt {b b' : Bank} (hb : b' ≠ b) (g : Nat) {n : Nat} (hn : n ≤ 16) (s : State)
    (d c : Nat) : (readCall b g n s).codeAt b' d c = s.codeAt b' d c := by
  rw [readCall, codeAt_respond, readGroups, readOnes_other_codeAt hb hn, codeAt_setPecErr]

theorem readCall_pecErr (b : Bank) (g : Nat) {n : Nat} (hn : n ≤ 16) (s : State) :
    (readCall b g n s).regs.pecErr = anyMismatch s.par s.bus (if g = 0 then b.groups else 1) n := by
  rw [readCall, State.respond_regs, readGroups, readOnes_pecErr b hn, selectedGroups_length]
  simp

theorem readCall_bus (b : Bank) {g : Nat} (hg : g ≤ b.groups) (n : Nat) (s : State) :
    (readCall b g n s).bus = s.bus.afterTraffic (readTrace s n (selectedCommands b g))
      (8 * n * (if g = 0 then b.groups else 1)) := by
  rw [readCall, State.respond_bus, readGroups, readOnes_bus b n (selectedGroups_ne_nil b g),
    map_readCommand_selectedGroups b hg, selectedGroups_length]
  rfl

theorem readCall_host (b : Bank) (g n : Nat) (s : State) :
    (readCall b g n s).host = { s.host with responses := s.host.responses ++
      [⟨if (readCall b g n s).regs.pecErr then .pecError else .ok, .codes ((List.range n).flatMap fun d =>
        (if g = 0 then List.range b.channels else [3 * (g - 1), 3 * (g - 1) + 1, 3 * (g - 1) + 2]).map fun c =>
          (readCall b g n s).codeAt b d c)⟩] } := by
  simp only [readCall, State.respond, codesPayload, selectedChannels_eq, readStatus,
    (readFrame_readGroups b (selectedGroups b g) n s).host]
  cases b <;> rfl

/-- Every register a read call leaves alone, the two arrays of results aside. -/
theorem readCall_regs (b : Bank) (g n : Nat) (s : State) :
    (readCall b g n s).regs = { s.regs with
      rem := (readCall b g n s).regs.rem, pecErr := (readCall b g n s).regs.pecErr
      cell := (readCall b g n s).regs.cell, aux := (readCall b g n s).regs.aux
      txbuf := (readCall b g n s).regs.txbuf, txlen := 4
      rxbuf := (readCall b g n s).regs.rxbuf, rxlen := BitVec.ofNat 8 (8 * n) } := by
  obtain ⟨htxlen, hrxlen⟩ := readOnes_lengths b n (selectedGroups_ne_nil b g) (s.setPecErr false)
  have hcfgrx := readOnes_cfgrx b n (selectedGroups b g) (s.setPecErr false)
  rw [readCall, State.respond_regs, ← hrxlen, ← htxlen]
  refine (readFrame_readGroups b (selectedGroups b g) n s).regs.trans ?_
  rw [Regs.withRead, show (readGroups b (selectedGroups b g) n s).regs.cfgrx = s.regs.cfgrx from hcfgrx]
  rfl

theorem readCall_cell_keeps_aux (g : Nat) {n : Nat} (hn : n ≤ 16) (s : State) :
    (readCall .cell g n s).regs.aux = s.regs.aux :=
  vector_eq_of_slotAt_eq fun d c => readCall_other_codeAt (b' := .aux) (by decide) g hn s d c

theorem readCall_aux_keeps_cell (g : Nat) {n : Nat} (hn : n ≤ 16) (s : State) :
    (readCall .aux g n s).regs.cell = s.regs.cell :=
  vector_eq_of_slotAt_eq fun d c => readCall_other_codeAt (b' := .cell) (by decide) g hn s d c

theorem readCall_buffers (b : Bank) (g n : Nat) (s : State) :
    (∀ i, 4 ≤ i → bufByte (readCall b g n s).regs.txbuf i = bufByte s.regs.txbuf i) ∧
    (∀ i, 8 * n ≤ i → bufByte (readCall b g n s).regs.rxbuf i = bufByte s.regs.rxbuf i) :=
  readOnes_buffers b n (selectedGroups b g) (s.setPecErr false)

theorem readCall_past_par (b : Bank) (g n : Nat) (s : State) :
    (readCall b g n s).past = s.past ∧ (readCall b g n s).par = s.par :=
  have h := readFrame_readGroups b (selectedGroups b g) n s
  ⟨h.past, h.par⟩

/-- Settles O19. -/
theorem rdcvResult : Obligations.RdcvResult := by
  refine ⟨fun g n s hg h1 hn => ?_, fun g n s h => exec_of_malformed (i := .rdcv g n) h, ?_, ?_, fun _ _ => rfl⟩
  · obtain ⟨htx, hrx⟩ := readCall_buffers .cell g n s
    obtain ⟨hpast, hpar⟩ := readCall_past_par .cell g n s
    have hregs := readCall_regs .cell g n s
    rw [readCall_cell_keeps_aux g hn] at hregs
    exact ⟨readCall .cell g n s, exec_rdcv_of_legal hg h1 hn s,
      fun d c _ hc => readCall_codeAt .cell g hn s d hc, readCall_pecErr .cell g hn s,
      readCall_bus .cell hg n s, readCall_host .cell g n s, hregs, htx, hrx, hpast, hpar⟩
  all_goals decide +kernel

/-- Settles O20. -/
theorem rdauxResult : Obligations.RdauxResult := by
  refine ⟨fun g n s hg h1 hn => ?_, fun g n s h => exec_of_malformed (i := .rdaux g n) h, fun _ _ => rfl⟩
  obtain ⟨htx, hrx⟩ := readCall_buffers .aux g n s
  obtain ⟨hpast, hpar⟩ := readCall_past_par .aux g n s
  have hregs := readCall_regs .aux g n s
  rw [readCall_aux_keeps_cell g hn] at hregs
  exact ⟨readCall .aux g n s, exec_rdaux_of_legal hg h1 hn s,
    fun d c _ hc => readCall_codeAt .aux g hn s d hc, readCall_pecErr .aux g hn s,
    readCall_bus .aux hg n s, readCall_host .aux g n s, hregs, htx, hrx, hpast, hpar⟩

end Sys2Proof.Machine
end

section
/-! Proofs about the configuration registers of the chain (42_register_access.md R149, R150): what RDCFG stores of each
block, the write burst that WRCFG builds in TXBUF, and the two results. -/

namespace Sys2Proof.Machine

/-! ### One device of RDCFG -/

theorem storeBytes_exists_setCfgrx (blk : List Byte) (d k : Nat) (s : State) :
    ∃ v, (List.range k).foldl (fun t j => t.setCfgrxByte d j (blk.getD j 0)) s = s.setCfgrx v := by
  induction k with
  | zero => exact ⟨s.regs.cfgrx, rfl⟩
  | succ k ih =>
    obtain ⟨v, hv⟩ := ih
    exact ⟨setSlot v d k (blk.getD k 0), by rw [List.range_succ, List.foldl_append, hv]; rfl⟩

/-- Storing a block and checking it writes REM, PEC_ERR and CFGRX. -/
theorem readCfgDevice_eq (s : State) (d : Nat) :
    readCfgDevice s d = { s with
      regs.rem := pecRem s.par.table (blockData (s.rxBlock d))
      regs.pecErr := s.regs.pecErr || mismatch s.par.table (s.rxBlock d)
      regs.cfgrx := (readCfgDevice s d).regs.cfgrx } := by
  obtain ⟨v, hv⟩ := storeBytes_exists_setCfgrx (s.rxBlock d) d 8 s
  rw [readCfgDevice, hv]
  rfl

theorem readCfgDevice_cfgrx (s : State) (d d' j : Nat) (hj : j < 8) :
    slotAt (readCfgDevice s d).regs.cfgrx d' j =
      if d' = d ∧ d < 16 then (s.rxBlock d).getD j 0 else slotAt s.regs.cfgrx d' j := by
  refine (cfgrx_storeBlock (s.rxBlock d) d 8 s d' j).trans ?_
  simp only [hj, and_true]

/-! ### The devices of RDCFG -/

theorem readCfgDevices_succ (n : Nat) (s : State) :
    (List.range (n + 1)).foldl readCfgDevice s = readCfgDevice ((List.range n).foldl readCfgDevice s) n := by
  simp [List.range_succ]

theorem readCfgDevices_eq (n : Nat) (s : State) :
    (List.range n).foldl readCfgDevice s = { s with
      regs.rem := ((List.range n).foldl readCfgDevice s).regs.rem
      regs.pecErr := ((List.range n).foldl readCfgDevice s).regs.pecErr
      regs.cfgrx := ((List.range n).foldl readCfgDevice s).regs.cfgrx } := by
  induction n with
  | zero => rfl
  | succ n ih =>
    rw [readCfgDevices_succ]
    generalize (List.range n).foldl readCfgDevice s = t at ih ⊢
    rw [readCfgDevice_eq, ih]

theorem readCfgDevices_rxBlock (n : Nat) (s : State) (d : Nat) :
    ((List.range n).foldl readCfgDevice s).rxBlock d = s.rxBlock d := by
  rw [readCfgDevices_eq]
  rfl

theorem readCfgDevices_pecErr (n : Nat) (s : State) :
    ((List.range n).foldl readCfgDevice s).regs.pecErr =
      (s.regs.pecErr || (List.range n).any fun d => mismatch s.par.table (s.rxBlock d)) := by
  induction n with
  | zero => simp
  | succ n ih =>
    have hpar : ((List.range n).foldl readCfgDevice s).par = s.par := by rw [readCfgDevices_eq]
    rw [readCfgDevices_succ, readCfgDevice_eq]
    simp [ih, readCfgDevices_rxBlock, hpar, List.range_succ, Bool.or_assoc]

theorem readCfgDevices_cfgrx (n : Nat) (s : State) {d j : Nat} (hd : d < 16) (hj : j < 8) :
    slotAt ((List.range n).foldl readCfgDevice s).regs.cfgrx d j =
      if d < n then (s.rxBlock d).getD j 0 else slotAt s.regs.cfgrx d j := by
  induction n with
  | zero => simp
  | succ n ih =>
    rw [readCfgDevices_succ, readCfgDevice_cfgrx _ _ _ _ hj, ih, readCfgDevices_rxBlock]
    obtain hlt | rfl | hgt := Nat.lt_trichotomy d n
    · rw [if_neg (by omega), if_pos hlt, if_pos (by omega)]
    · rw [if_pos ⟨rfl, hd⟩, if_pos (by omega)]
    · rw [if_neg (by omega), if_neg (by omega), if_neg (by omega)]

/-! ### RDCFG -/

/-- The state in which RDCFG begins to take the response apart. -/
def cfgResponse (n : Nat) (s : State) : State :=
  transact .rdcfg (8 * n) (loadFrame .rdcfg (s.setPecErr false))

theorem readCfgCall_eq_respond (n : Nat) (s : State) :
    readCfgCall n s =
      (((List.range n).foldl readCfgDevice (cfgResponse n s)).respond
        (readStatus ((List.range n).foldl readCfgDevice (cfgResponse n s)))
        (.blocks (cfgrxPayload n ((List.range n).foldl readCfgDevice (cfgResponse n s))))) := rfl

theorem cfgResponse_eq (n : Nat) (s : State) :
    cfgResponse n s = { s with
      regs.rem := pecRem s.par.table (opcodeBytes (opcode s.par .rdcfg))
      regs.pecErr := false
      regs.txbuf := memWrite s.regs.txbuf 0 (frame s.par.table (opcode s.par .rdcfg))
      regs.txlen := 4
      regs.rxbuf := memWrite s.regs.rxbuf 0 (s.bus.answer (8 * n))
      regs.rxlen := BitVec.ofNat 8 (8 * n)
      bus := s.bus.afterTraffic (readTrace s n [.rdcfg]) (8 * n) } := by
  rw [cfgResponse, transact_loadFrame]
  simp [readTrace, readTransaction, BusPort.answer, State.setPecErr, commandWord]

theorem cfgResponse_rxBlock {n : Nat} (hn : n ≤ 16) (s : State) {d : Nat} (hd : d < n) :
    (cfgResponse n s).rxBlock d = streamBlock s.bus (8 * d) :=
  transact_rxBlock .rdcfg n _ hn d hd

theorem readCfgCall_cfgrx {n : Nat} (hn : n ≤ 16) (s : State) {d j : Nat} (hd : d < 16) (hj : j < 8) :
    slotAt (readCfgCall n s).regs.cfgrx d j =
      if d < n then s.bus.byteAt (8 * d + j) else slotAt s.regs.cfgrx d j := by
  rw [readCfgCall_eq_respond, State.respond_regs, readCfgDevices_cfgrx _ _ hd hj]
  by_cases h : d < n
  · rw [if_pos h, if_pos h, cfgResponse_rxBlock hn s h, streamBlock_getD _ _ hj]
  · rw [if_neg h, if_neg h, cfgResponse_eq]

theorem readCfgCall_pecErr {n : Nat} (hn : n ≤ 16) (s : State) :
    (readCfgCall n s).regs.pecErr = anyMismatch s.par s.bus 1 n := by
  have hblocks : ((List.range n).any fun d => mismatch s.par.table ((cfgResponse n s).rxBlock d)) =
      (List.range n).any fun d => mismatch s.par.table (streamBlock s.bus (blockPos n 0 d)) := by
    rw [Bool.eq_iff_iff, List.any_eq_true, List.any_eq_true]
    refine exists_congr fun d => and_congr_right fun hd => ?_
    rw [cfgResponse_rxBlock hn s (List.mem_range.mp hd), blockPos, Nat.mul_zero, Nat.zero_add]
  rw [readCfgCall_eq_respond, State.respond_regs, readCfgDevices_pecErr, anyMismatch_succ, ← hblocks, cfgResponse_eq]
  rfl

theorem readCfgCall_bus (n : Nat) (s : State) :
    (readCfgCall n s).bus = s.bus.afterTraffic (readTrace s n [.rdcfg]) (8 * n) := by
  rw [readCfgCall_eq_respond, State.respond_bus, readCfgDevices_eq, cfgResponse_eq]

/-- The payload is the bytes the chain sent, whatever the checks say. -/
theorem readCfgCall_payload {n : Nat} (hn : n ≤ 16) (s : State) :
    cfgrxPayload n (readCfgCall n s) = (List.range n).map fun d => streamBlock s.bus (8 * d) := by
  refine List.map_congr_left fun d hd => List.map_congr_left fun j hj => ?_
  rw [List.mem_range] at hd hj
  rw [readCfgCall_cfgrx hn s (by omega) hj, if_pos hd]

theorem readCfgCall_host {n : Nat} (hn : n ≤ 16) (s : State) :
    (readCfgCall n s).host = { s.host with responses := s.host.responses ++
      [⟨if (readCfgCall n s).regs.pecErr then .pecError else .ok,
        .blocks ((List.range n).map fun d => streamBlock s.bus (8 * d))⟩] } := by
  have hhost : ((List.range n).foldl readCfgDevice (cfgResponse n s)).host = s.host := by
    rw [readCfgDevices_eq, cfgResponse_eq]
  rw [← readCfgCall_payload hn, ← hhost]
  rfl

theorem readCfgCall_regs (n : Nat) (s : State) :
    (readCfgCall n s).regs = { s.regs with
      rem := (readCfgCall n s).regs.rem, pecErr := (readCfgCall n s).regs.pecErr
      cfgrx := (readCfgCall n s).regs.cfgrx, txbuf := (readCfgCall n s).regs.txbuf, txlen := 4
      rxbuf := (readCfgCall n s).regs.rxbuf, rxlen := BitVec.ofNat 8 (8 * n) } := by
  rw [readCfgCall_eq_respond, State.respond_regs, readCfgDevices_eq, cfgResponse_eq]

theorem readCfgCall_buffers (n : Nat) (s : State) :
    (∀ i, 4 ≤ i → bufByte (readCfgCall n s).regs.txbuf i = bufByte s.regs.txbuf i) ∧
    (∀ i, 8 * n ≤ i → bufByte (readCfgCall n s).regs.rxbuf i = bufByte s.regs.rxbuf i) := by
  rw [readCfgCall_eq_respond, State.respond_regs, readCfgDevices_eq, cfgResponse_eq]
  exact ⟨fun i hi => bufByte_memWrite_zero_of_le _ (by simpa using hi),
    fun i hi => bufByte_memWrite_zero_of_le _ (by simpa using hi)⟩

theorem readCfgCall_past_par (n : Nat) (s : State) :
    (readCfgCall n s).past = s.past ∧ (readCfgCall n s).par = s.par := by
  rw [readCfgCall_eq_respond, State.respond_past, State.respond_par, readCfgDevices_eq, cfgResponse_eq]
  exact ⟨rfl, rfl⟩

/-- Settles O21. -/
theorem rdcfgResult : Obligations.RdcfgResult := by
  refine ⟨fun n s h1 hn => ?_, fun n s h => exec_of_malformed (i := .rdcfg n) h, fun _ => rfl⟩
  obtain ⟨htx, hrx⟩ := readCfgCall_buffers n s
  obtain ⟨hpast, hpar⟩ := readCfgCall_past_par n s
  exact ⟨readCfgCall n s, exec_rdcfg_of_legal h1 hn s, fun d j hd hj => readCfgCall_cfgrx hn s hd hj,
    readCfgCall_pecErr hn s, readCfgCall_bus n s, readCfgCall_host hn s, readCfgCall_regs n s, htx, hrx, hpast, hpar⟩

/-! ### The write burst -/

theorem cfgtxRead_length (blocks : List (Vector Byte 6)) (d : Nat) : (cfgtxRead blocks d).length = 6 :=
  Vector.length_toList

/-- The first `k` blocks of the burst, last device first. -/
def burstBlocks (table : Vector (BitVec 16) 256) (blocks : List (Vector Byte 6)) (n k : Nat) : List Byte :=
  (List.range k).flatMap fun i => withPec table (cfgtxRead blocks (n - 1 - i))

theorem burstBlocks_succ (table : Vector (BitVec 16) 256) (blocks : List (Vector Byte 6)) (n k : Nat) :
    burstBlocks table blocks n (k + 1) =
      burstBlocks table blocks n k ++ withPec table (cfgtxRead blocks (n - 1 - k)) := by
  simp [burstBlocks, List.range_succ]

theorem burstBlocks_length (table : Vector (BitVec 16) 256) (blocks : List (Vector Byte 6)) (n k : Nat) :
    (burstBlocks table blocks n k).length = 8 * k := by
  induction k with
  | zero => rfl
  | succ k ih => simp [burstBlocks_succ, ih, cfgtxRead_length, Nat.mul_add]

/-- All `n` blocks are the operand's blocks in reverse. -/
theorem burstBlocks_eq_reverse (table : Vector (BitVec 16) 256) (blocks : List (Vector Byte 6)) :
    burstBlocks table blocks blocks.length blocks.length =
      blocks.reverse.flatMap fun b => withPec table b.toList := by
  have hreverse : blocks.reverse = (List.range blocks.length).map fun i =>
      (blocks[blocks.length - 1 - i]?).getD (Vector.replicate 6 0) := by
    refine List.ext_getElem (by simp) fun i hi _ => ?_
    rw [List.length_reverse] at hi
    simp [show blocks.length - 1 - i < blocks.length by omega]
  rw [hreverse, List.flatMap_map]
  rfl

theorem putBlock_eq (blocks : List (Vector Byte 6)) (n : Nat) (s : State) (i : Nat) :
    putBlock blocks n s i = { s with
      regs.rem := pecRem s.par.table (cfgtxRead blocks (n - 1 - i))
      regs.txbuf := memWrite s.regs.txbuf (4 + 8 * i) (withPec s.par.table (cfgtxRead blocks (n - 1 - i))) } := rfl

/-- Placing blocks writes REM and TXBUF. -/
theorem putBlocks_eq (blocks : List (Vector Byte 6)) (n k : Nat) (s : State) :
    (List.range k).foldl (putBlock blocks n) s = { s with
      regs.rem := ((List.range k).foldl (putBlock blocks n) s).regs.rem
      regs.txbuf := ((List.range k).foldl (putBlock blocks n) s).regs.txbuf } := by
  induction k with
  | zero => rfl
  | succ k ih =>
    rw [List.range_succ, List.foldl_append]
    generalize (List.range k).foldl (putBlock blocks n) s = t at ih ⊢
    rw [List.foldl_cons, List.foldl_nil, putBlock_eq, ih]

/-- After `k` blocks, TXBUF holds them behind its first four bytes, and the bytes after them are as before. -/
theorem putBlocks_txbuf (blocks : List (Vector Byte 6)) (n k : Nat) (hk : 4 + 8 * k ≤ 132) (s : State) :
    memRead ((List.range k).foldl (putBlock blocks n) s).regs.txbuf 0 (4 + 8 * k) =
      memRead s.regs.txbuf 0 4 ++ burstBlocks s.par.table blocks n k ∧
    (∀ i, 4 + 8 * k ≤ i →
      bufByte ((List.range k).foldl (putBlock blocks n) s).regs.txbuf i = bufByte s.regs.txbuf i) := by
  induction k with
  | zero => exact ⟨by simp [burstBlocks], fun _ _ => rfl⟩
  | succ k ih =>
    obtain ⟨ihread, ihrest⟩ := ih (by omega)
    have hpar : ((List.range k).foldl (putBlock blocks n) s).par = s.par := by rw [putBlocks_eq]
    have hblock : (withPec s.par.table (cfgtxRead blocks (n - 1 - k))).length = 8 := by simp [cfgtxRead_length]
    rw [List.range_succ, List.foldl_append, List.foldl_cons, List.foldl_nil, putBlock, State.writeTx_regs_txbuf,
      State.runPec_regs_txbuf, hpar]
    refine ⟨?_, fun i hi => ?_⟩
    · have hsame := memRead_memWrite_same ((List.range k).foldl (putBlock blocks n) s).regs.txbuf (4 + 8 * k)
        (withPec s.par.table (cfgtxRead blocks (n - 1 - k))) (by omega)
      rw [hblock] at hsame
      rw [Nat.mul_add, Nat.mul_one, ← Nat.add_assoc, memRead_append, memRead_memWrite_other _ _ _ _ _ (by omega),
        ihread, Nat.zero_add, hsame, burstBlocks_succ, List.append_assoc]
    · rw [bufByte_memWrite, if_neg (by omega), ihrest i (by omega)]

theorem loadBurst_eq (n : Nat) (blocks : List (Vector Byte 6)) (s : State) :
    loadBurst n blocks s = { s with
      regs.rem := (loadBurst n blocks s).regs.rem
      regs.txbuf := (loadBurst n blocks s).regs.txbuf
      regs.txlen := BitVec.ofNat 8 (4 + 8 * n) } := by
  conv_lhs => rw [loadBurst, putBlocks_eq, loadFrame_eq]
  rfl

theorem loadBurst_txbuf {n : Nat} (hn : n ≤ 16) (blocks : List (Vector Byte 6)) (s : State) :
    memRead (loadBurst n blocks s).regs.txbuf 0 (4 + 8 * n) =
      frame s.par.table (opcode s.par .wrcfg) ++ burstBlocks s.par.table blocks n n ∧
    (∀ i, 4 + 8 * n ≤ i → bufByte (loadBurst n blocks s).regs.txbuf i = bufByte s.regs.txbuf i) := by
  obtain ⟨hread, hrest⟩ := putBlocks_txbuf blocks n n (by omega) (loadFrame .wrcfg s)
  refine ⟨hread.trans (congrArg (· ++ _) (loadFrame_txBytes .wrcfg s)), fun i hi => (hrest i hi).trans ?_⟩
  exact bufByte_memWrite_zero_of_le _ (by simp; omega)

theorem loadBurst_txBytes {n : Nat} (hn : n ≤ 16) (blocks : List (Vector Byte 6)) (s : State) :
    (loadBurst n blocks s).txBytes =
      frame s.par.table (opcode s.par .wrcfg) ++ burstBlocks s.par.table blocks n n := by
  have hlen : (BitVec.ofNat 8 (4 + 8 * n)).toNat = 4 + 8 * n := by
    rw [BitVec.toNat_ofNat]; omega
  rw [← (loadBurst_txbuf hn blocks s).1, State.txBytes, ← hlen]
  rfl

/-- The burst goes out in one transaction that receives nothing. -/
theorem transact_loadBurst {n : Nat} (hn : n ≤ 16) (blocks : List (Vector Byte 6)) (s : State) :
    transact .wrcfg 0 (loadBurst n blocks s) = { s with
      regs.rem := (loadBurst n blocks s).regs.rem
      regs.txbuf := (loadBurst n blocks s).regs.txbuf
      regs.txlen := BitVec.ofNat 8 (4 + 8 * n)
      regs.rxlen := 0
      bus := s.bus.afterTraffic (transaction (wakeKind s.par .wrcfg)
        (frame s.par.table (opcode s.par .wrcfg) ++ burstBlocks s.par.table blocks n n) []) 0 } := by
  rw [transact_eq_afterTraffic, loadBurst_txBytes hn, BusPort.answer_zero, memWrite_nil]
  conv_lhs => rw [loadBurst_eq]
  rfl

/-- Settles O22. -/
theorem wrcfgBurst : Obligations.WrcfgBurst := by
  refine ⟨fun n blocks s h1 hn hlen => ?_, fun n blocks s h => exec_of_malformed (i := .wrcfg n blocks) h,
    fun _ _ => rfl⟩
  obtain ⟨hread, hrest⟩ := loadBurst_txbuf hn blocks s
  have hblocks : burstBlocks s.par.table blocks n n =
      blocks.reverse.flatMap fun b => withPec s.par.table b.toList := by
    rw [← hlen, burstBlocks_eq_reverse]
  intro tx
  have htx : frame s.par.table (opcode s.par .wrcfg) ++ burstBlocks s.par.table blocks n n = tx := by rw [hblocks]
  refine ⟨?_, _, exec_wrcfg_of_legal h1 hn blocks s, ?_⟩
  · rw [← htx, List.length_append, frame_length, burstBlocks_length]
  · rw [transact_loadBurst hn, htx]
    exact ⟨rfl, rfl, rfl, hread.trans htx, hrest, rfl, rfl⟩

end Sys2Proof.Machine
end

section
/-! Proof that the number of transactions of an operation is fixed by its operands (42_register_access.md R155): the
trace each result above leaves, counted. -/

namespace Sys2Proof.Machine

theorem exec_configure_bus {mode dcp ch chg : Nat} {s t : State}
    (h : exec (.configure mode dcp ch chg) s = .next t) : t.bus = s.bus := by
  simp only [exec, execConfigure] at h
  split at h <;> (cases h; rfl)

theorem sendCommand_trace_length (c : WireCmd) (s : State) :
    (sendCommand c s).bus.trace.length = s.bus.trace.length + 4 := by
  rw [sendCommand_eq]
  simp [commandTrace]

theorem readCall_trace_length (b : Bank) {g : Nat} (hg : g ≤ b.groups) (n : Nat) (s : State) :
    (readCall b g n s).bus.trace.length = s.bus.trace.length + 4 * (if g = 0 then b.groups else 1) := by
  rw [readCall_bus b hg, BusPort.afterTraffic_trace, List.length_append, readTrace_length,
    selectedCommands_length b hg]

/-- Four events for each transaction. The encoders and the checksum operations make none, the operations of the bus as
many as their result theorems say. -/
theorem exec_trace_length {i : Instr} {s t : State} (h : exec i s = .next t) (hlegal : ¬ malformed i s)
    (hsample : ∀ b n m, i ≠ sampleInstr b n m) :
    t.bus.trace.length = s.bus.trace.length + 4 * transactions i := by
  cases i with
  | configure mode dcp ch chg => rw [exec_configure_bus h]; rfl
  | rdcv g n =>
    simp only [malformed, not_or, not_lt] at hlegal
    obtain ⟨hg, h1, hn⟩ := hlegal
    rw [exec_rdcv_of_legal hg h1 hn] at h
    cases h
    exact readCall_trace_length .cell hg n s
  | rdaux g n =>
    simp only [malformed, not_or, not_lt] at hlegal
    obtain ⟨hg, h1, hn⟩ := hlegal
    rw [exec_rdaux_of_legal hg h1 hn] at h
    cases h
    exact readCall_trace_length .aux hg n s
  | rdcfg n =>
    simp only [malformed, not_or, not_lt] at hlegal
    obtain ⟨h1, hn⟩ := hlegal
    rw [exec_rdcfg_of_legal h1 hn] at h
    cases h
    rw [readCfgCall_bus, BusPort.afterTraffic_trace, List.length_append, readTrace_length]
    rfl
  | wrcfg n blocks =>
    simp only [malformed, not_or, not_lt] at hlegal
    obtain ⟨h1, hn⟩ := hlegal
    rw [exec_wrcfg_of_legal h1 hn] at h
    cases h
    rw [State.respond_bus, transact_loadBurst hn, BusPort.afterTraffic_trace, List.length_append, transaction_length]
    rfl
  | samplev n m => exact absurd rfl (hsample .cell n m)
  | sampleaux n m => exact absurd rfl (hsample .aux n m)
  | adcv => rw [exec_soleCommand (c := .adcv) rfl hlegal] at h; cases h; exact sendCommand_trace_length _ s
  | adax => rw [exec_soleCommand (c := .adax) rfl hlegal] at h; cases h; exact sendCommand_trace_length _ s
  | clrcell => cases h; exact sendCommand_trace_length _ s
  | clraux => cases h; exact sendCommand_trace_length _ s
  | _ => cases h; rfl

/-- Settles O38: `exec_trace_length` for the legal operations, `exec_of_malformed` for the rejected ones. -/
theorem transactionCounts : Obligations.TransactionCounts := by
  refine fun i s t h => ⟨exec_trace_length h, fun hm => ?_⟩
  rw [exec_of_malformed hm] at h
  cases h
  rfl

end Sys2Proof.Machine
end

section
/-! Proof that a voltage is the scaled code, or zero below the noise floor (43_orchestrator.md R174, R175). -/

namespace Sys2Proof.Machine

theorem scale_eq (code : Code) : scale code = code.toNat * 100 := rfl

/-- The greatest code, 65535, scales to the bound. -/
theorem scale_le (code : Code) : scale code ≤ 6553500 := by
  have hcode : code.toNat < 2 ^ 16 := code.isLt
  rw [scale_eq]
  omega

theorem clamp_eq (p : Params) (v : Nat) : clamp p v = if v < p.noiseFloorUv then 0 else v := rfl

theorem clamp_le (p : Params) (v : Nat) : clamp p v ≤ v := by
  rw [clamp_eq]
  split
  · exact Nat.zero_le v
  · exact le_rfl

/-- The 32 bits lose nothing: clamping does not raise the scaled code, and the scaled code fits. -/
theorem voltage_toNat (p : Params) (code : Code) : (voltage p code).toNat = clamp p (scale code) := by
  have hfits : clamp p (scale code) < 2 ^ 32 :=
    calc clamp p (scale code) ≤ scale code := clamp_le p _
      _ ≤ 6553500 := scale_le code
      _ < 2 ^ 32 := by decide
  rw [voltage, BitVec.toNat_ofNat, Nat.mod_eq_of_lt hfits]

/-- Settles O25: `scale_le` bounds the scaled code, so by `voltage_toNat` the 32-bit voltage is the clamped one. -/
theorem voltageIsScaledAndClamped : Obligations.VoltageIsScaledAndClamped := by
  refine fun p code => ⟨scale_eq code, scale_le code, ?_⟩
  rw [voltage_toNat, clamp_eq, scale_eq]

end Sys2Proof.Machine
end

section
/-! Proofs about malformed caller input (60_exceptions.md R193): an undefined selector decodes to nothing whatever
follows it, and a request that decodes to nothing is taken, answered with ST_CONFIG_ERROR, and leaves no other mark. -/

namespace Sys2Proof.Machine

/-! ### An undefined selector -/

/-- No operation has a selector above 0x0C, so the bytes after it are not read (30_encoding.md R76). -/
theorem decodeOperands_undefinedHop {hop : Byte} (h : 0x0C < hop) (bs : List Byte) :
    decodeOperands hop bs = .error (.undefinedHop hop) := by
  have hne (k : Byte) (hk : k ≤ 0x0C) : hop ≠ k := by bv_omega
  simp [decodeOperands, hne]

theorem decodeHost_undefinedHop {hop : Byte} (h : 0x0C < hop) (bs : List Byte) :
    decodeHost (hop :: bs) = .error (.undefinedHop hop) := by
  simp only [decodeHost, decodeRequest, decodeOperands_undefinedHop h]

/-! ### The oldest request of the host -/

theorem fetch_of_request {s : State} {msg : List Byte} {more : List (List Byte)} (hsel : s.host.encSel = none)
    (hreq : s.host.requests = msg :: more) : fetch s = some (decodeHost msg) := by
  simp [fetch, fetchBytes, hsel, hreq, decode]

theorem accept_of_request {s : State} {msg : List Byte} {more : List (List Byte)} (hsel : s.host.encSel = none)
    (hreq : s.host.requests = msg :: more) : accept s = { s with host.requests := more } := by
  simp only [accept, hsel, hreq, List.tail_cons, State.setInputs]

@[simp] theorem accept_bus (s : State) : (accept s).bus = s.bus := by
  unfold accept
  split <;> rfl

/-! ### The rejection -/

/-- What leaves the transport port alone takes no time on it: no adapter call can hang it, and with no reset coming it
ends as it would. -/
theorem settle_of_bus_eq {s t : State} (hbus : t.bus = s.bus) (hreset : s.bus.resetIn = none) :
    settle s t = .next t := by
  have hevents : newEvents s t = [] := by rw [newEvents, hbus, List.drop_length]
  have hhangs : hangs s.bus.hangIn [] = false := by cases s.bus.hangIn <;> rfl
  have hdeadlines : t.setDeadlines s.bus.hangIn none = t := by rw [← hreset, ← hbus, setDeadlines_self]
  simp [settle, hreset, hevents, hhangs, hdeadlines]

theorem raiseConfigError_bus (s : State) : (raiseConfigError s).bus = s.bus := rfl

/-- A request that decodes to nothing is taken and answered with ST_CONFIG_ERROR, and that is all (log 14). -/
theorem step_of_undecodable {s : State} {e : DecodeError} (hreset : s.bus.resetIn = none)
    (hactive : s.host.active = none) (hfetch : fetch s = some (.error e)) :
    step s = .next (raiseConfigError (accept s)) := by
  have hstep : step s = settle (accept s) (raiseConfigError (accept s)) := by
    simp [step, hreset, stepRunning, hactive, stepIdle, hfetch]
  rw [hstep]
  exact settle_of_bus_eq (raiseConfigError_bus _) (by rw [accept_bus, hreset])

/-- Settles O31: causes 2 to 5 by `exec_of_malformed`, cause 1 by `step_of_undecodable`. -/
theorem malformedInputIsRejected : Obligations.MalformedInputIsRejected := by
  refine ⟨fun i s h => exec_of_malformed h, fun hop rest more s hhop hreset hactive hsel hreq => ?_⟩
  have hfetch : fetch s = some (.error (.undefinedHop hop)) := by
    rw [fetch_of_request hsel hreq, decodeHost_undefinedHop hhop]
  rw [step_of_undecodable hreset hactive hfetch, accept_of_request hsel hreq]
  rfl

end Sys2Proof.Machine
end

section
/-! Proofs about the reset state (70_reset_and_hazards.md R220) and about the conversion configuration, which only a
successful CONFIGURE and reset write (R231). The configuration is taken as one value, and each operation is shown to
keep it. -/

namespace Sys2Proof.Machine

/-- Settles O35: each value as `State.reset` names it. -/
theorem resetValues : Obligations.ResetValues := ⟨⟨rfl, rfl, rfl, rfl, rfl, rfl⟩, rfl⟩

/-! ### The conversion configuration -/

/-- What CONFIGURE writes: MD, DCP, CH, CHG and CFG_VALID (10_state.md R13 to R17). -/
def Regs.config (r : Regs) : BitVec 2 × BitVec 1 × BitVec 3 × BitVec 3 × Bool :=
  (r.md, r.dcp, r.ch, r.chg, r.cfgValid)

theorem Regs.config_eq_iff (r r' : Regs) : r'.config = r.config ↔
    r'.md = r.md ∧ r'.dcp = r.dcp ∧ r'.ch = r.ch ∧ r'.chg = r.chg ∧ r'.cfgValid = r.cfgValid := by
  simp only [Regs.config, Prod.mk.injEq]

/-! ### Reads and writes of the chain keep it -/

theorem ReadFrame.config {s t : State} (h : ReadFrame s t) : t.regs.config = s.regs.config := by
  rw [h.regs]
  rfl

theorem sendCommand_config (c : WireCmd) (s : State) : (sendCommand c s).regs.config = s.regs.config :=
  (readFrame_transact_loadFrame c 0 s).config

theorem readCall_config (b : Bank) (g n : Nat) (s : State) : (readCall b g n s).regs.config = s.regs.config := by
  rw [readCall_regs]
  rfl

theorem readCfgCall_config (n : Nat) (s : State) : (readCfgCall n s).regs.config = s.regs.config := by
  rw [readCfgCall_regs]
  rfl

theorem transact_loadBurst_config (n : Nat) (blocks : List (Vector Byte 6)) (s : State) :
    (transact .wrcfg 0 (loadBurst n blocks s)).regs.config = s.regs.config := by
  rw [transact_eq_afterTraffic, loadBurst_eq]
  rfl

/-! ### A sample keeps it -/

theorem startSample_config (b : Bank) (s : State) : (startSample b s).regs.config = s.regs.config :=
  sendCommand_config (startCommand b) ((s.setOrch .start).setRetries 0)

/-- Whether READ is entered again, counted or not, or the bound is used up. -/
theorem sampleRetry_config (a : Sample) (s : State) : (sampleRetry a s).regs.config = s.regs.config := by
  unfold sampleRetry
  split
  · rfl
  · split <;> rfl

theorem attempt_config (a : Sample) (s : State) : (attempt a s).regs.config = s.regs.config := by
  have hread := (readFrame_readGroups a.bank (List.range a.bank.groups) a.n s).config
  simp only [attempt]
  split
  · exact (sampleRetry_config a _).trans hread
  · exact hread

theorem attempt_startSample_config (a : Sample) (b : Bank) (s : State) :
    (attempt a (startSample b s)).regs.config = s.regs.config :=
  (attempt_config a _).trans (startSample_config b s)

/-! ### Every instruction but a legal CONFIGURE keeps it -/

/-- The shape of every operation with an operand check: a rejection writes no register (60_exceptions.md R193), so
what the operation does when it is legal decides. -/
theorem config_of_checked {legal : Prop} [Decidable legal] {s t u : State}
    (h : (if legal then .next u else .next (raiseConfigError s) : Host.Outcome State Fault Refusal) = .next t)
    (hu : u.regs.config = s.regs.config) : t.regs.config = s.regs.config := by
  split at h
  · cases h; exact hu
  · cases h; rfl

/-- The encoders and the checksum operations write none of these registers; the operations of the chain keep them by
the lemmas above; and a CONFIGURE here is a rejected one. -/
theorem exec_config {i : Instr} {s t : State} (h : exec i s = .next t)
    (hi : (∀ mode dcp ch chg, i ≠ .configure mode dcp ch chg) ∨ malformed i s) :
    t.regs.config = s.regs.config := by
  cases i with
  | configure mode dcp ch chg =>
    have hmalformed := hi.resolve_left fun hne => hne mode dcp ch chg rfl
    rw [exec_of_malformed hmalformed] at h
    cases h
    rfl
  | rdcv g n => exact config_of_checked h (readCall_config .cell g n s)
  | rdaux g n => exact config_of_checked h (readCall_config .aux g n s)
  | rdcfg n => exact config_of_checked h (readCfgCall_config n s)
  | wrcfg n blocks => exact config_of_checked h (transact_loadBurst_config n blocks s)
  | samplev n m => exact config_of_checked h (attempt_startSample_config ⟨.cell, n, m⟩ .cell s)
  | sampleaux n m => exact config_of_checked h (attempt_startSample_config ⟨.aux, n, m⟩ .aux s)
  | adcv => exact config_of_checked h (sendCommand_config .adcv s)
  | adax => exact config_of_checked h (sendCommand_config .adax s)
  | clrcell => cases h; exact sendCommand_config .clrcell s
  | clraux => cases h; exact sendCommand_config .clraux s
  | _ => cases h; rfl

/-! ### A retry of a sample keeps it -/

theorem step_of_active {a : Sample} {s : State} (hreset : s.bus.resetIn = none) (hactive : s.host.active = some a) :
    step s = settle s (attempt a s) := by
  simp [step, hreset, stepRunning, hactive]

/-- With no reset coming, what an operation ends in differs from its own outcome in the adapter's deadline only. -/
theorem eq_setDeadlines_of_settle {s u t : State} (hreset : s.bus.resetIn = none) (h : settle s u = .next t) :
    ∃ hangIn, t = u.setDeadlines hangIn none := by
  obtain ⟨k, hk, -⟩ | ⟨hnext, -⟩ | ⟨k, -, -, -, hfault⟩ := settle_cases s u
  · rw [hreset] at hk
    cases hk
  · rw [hnext, hreset] at h
    cases h
    exact ⟨_, rfl⟩
  · rw [hfault] at h
    cases h

theorem step_config_of_active {a : Sample} {s t : State} (hreset : s.bus.resetIn = none)
    (hactive : s.host.active = some a) (h : step s = .next t) : t.regs.config = s.regs.config := by
  rw [step_of_active hreset hactive] at h
  obtain ⟨hangIn, rfl⟩ := eq_setDeadlines_of_settle hreset h
  exact attempt_config a s

/-- Settles O39: `exec_config` for the instructions, `step_config_of_active` for the retries. -/
theorem configurationIsSticky : Obligations.ConfigurationIsSticky :=
  ⟨fun _ s t h hi => (Regs.config_eq_iff s.regs t.regs).mp (exec_config h hi),
    fun _ s t hreset hactive h => (Regs.config_eq_iff s.regs t.regs).mp (step_config_of_active hreset hactive h)⟩

end Sys2Proof.Machine
end

section
/-! Proofs about decoding (30_encoding.md R66 to R74): reading back what the encoder writes, operand by operand; the
command words; and the words of the opcode table placed where the next step fetches them. -/

namespace Sys2Proof

open Machine

/-! ### Operands read back, whatever follows them -/

theorem takeByte_putByte {v : Nat} (h : fitsByte v = true) (rest : List Byte) :
    takeByte (putByte v :: rest) = .ok (v, rest) := by
  have hv : v < 256 := of_decide_eq_true h
  simp [takeByte, putByte, Nat.mod_eq_of_lt hv]

theorem takeSeq_endMark (rest : List Byte) : takeSeq (0x00 :: rest) = .ok ([], rest) := by
  cases rest <;> rfl

theorem takeSeq_putSeq (bytes rest : List Byte) : takeSeq (putSeq bytes ++ rest) = .ok (bytes, rest) := by
  induction bytes with
  | nil => exact takeSeq_endMark rest
  | cons b bytes ih => simp [putSeq, takeSeq, ih]

theorem takeWord_putWord (v : Code) (rest : List Byte) : takeWord (putWord v ++ rest) = .ok (v, rest) := by
  simp [takeWord, putWord, wordOfBytes_high_low]

theorem takeRetry_putRetry (m : MaxRetry) (rest : List Byte) :
    takeRetry (putRetry m ++ rest) = .ok (m, rest) := by
  cases m with
  | unbounded => rfl
  | count m => simp [takeRetry, putRetry, putWord, wordOfBytes_high_low]

/-- The six bytes of a block, one by one. -/
theorem block_eq_mk (b : Vector Byte 6) : #v[b[0], b[1], b[2], b[3], b[4], b[5]] = b := by
  ext i hi
  interval_cases i <;> rfl

theorem block_toList (b : Vector Byte 6) : b.toList = [b[0], b[1], b[2], b[3], b[4], b[5]] := by
  conv_lhs => rw [← block_eq_mk b]
  rfl

theorem takeBlocks_flatMap (blocks : List (Vector Byte 6)) (rest : List Byte) :
    takeBlocks blocks.length (blocks.flatMap (fun b => b.toList) ++ rest) = .ok (blocks, rest) := by
  induction blocks with
  | nil => rfl
  | cons b blocks ih =>
    rw [List.flatMap_cons, List.append_assoc, block_toList b]
    simp only [List.cons_append, List.nil_append, List.length_cons, takeBlocks, ih, block_eq_mk]

/-! ### Requests of the host -/

/-- The decoder goes on with what an operand reader has read. -/
theorem ok_bind {α β : Type} (a : α) (f : α → Except DecodeError β) : (Except.ok a >>= f) = f a := rfl

/-- A host operation is read from the front of a message that begins with its bytes: each operand by its own lemma
above. -/
theorem decodeRequest_encode {i : Instr} (hwf : i.wellFormed = true) (hport : i.port = .host) (rest : List Byte) :
    decodeRequest (encode i ++ rest) = .ok (i, rest) := by
  cases i with
  | peccomp bytes => simp [encode, decodeRequest, decodeOperands, takeSeq_putSeq]
  | pecverify bytes expected =>
    simp [encode, decodeRequest, decodeOperands, ok_bind, takeSeq_putSeq, takeWord_putWord]
  | configure mode dcp ch chg =>
    simp only [Instr.wellFormed, Bool.and_eq_true, and_assoc] at hwf
    obtain ⟨hmode, hdcp, hch, hchg⟩ := hwf
    simp [encode, decodeRequest, decodeOperands, ok_bind, takeByte_putByte hmode, takeByte_putByte hdcp,
      takeByte_putByte hch, takeByte_putByte hchg]
  | rdcv g n =>
    obtain ⟨hg, hn⟩ := Bool.and_eq_true_iff.mp hwf
    simp [encode, decodeRequest, decodeOperands, ok_bind, takeByte_putByte hg, takeByte_putByte hn]
  | rdaux g n =>
    obtain ⟨hg, hn⟩ := Bool.and_eq_true_iff.mp hwf
    simp [encode, decodeRequest, decodeOperands, ok_bind, takeByte_putByte hg, takeByte_putByte hn]
  | wrcfg n blocks =>
    obtain ⟨hn, hlen⟩ := Bool.and_eq_true_iff.mp hwf
    have hblocks : takeBlocks n (blocks.flatMap (fun b => b.toList) ++ rest) = .ok (blocks, rest) :=
      of_decide_eq_true hlen ▸ takeBlocks_flatMap blocks rest
    simp [encode, decodeRequest, decodeOperands, ok_bind, takeByte_putByte hn, hblocks]
  | rdcfg n => simp [encode, decodeRequest, decodeOperands, takeByte_putByte hwf]
  | samplev n m =>
    simp [encode, decodeRequest, decodeOperands, ok_bind, takeByte_putByte hwf, takeRetry_putRetry]
  | sampleaux n m =>
    simp [encode, decodeRequest, decodeOperands, ok_bind, takeByte_putByte hwf, takeRetry_putRetry]
  | adcv => rfl
  | adax => rfl
  | clrcell => rfl
  | clraux => rfl
  | _ => cases hport

theorem decodeHost_of_decodeRequest {msg : List Byte} {i : Instr} (h : decodeRequest msg = .ok (i, [])) :
    decodeHost msg = .ok i := by
  simp only [decodeHost, h]

theorem decodeHost_encode {i : Instr} (hwf : i.wellFormed = true) (hport : i.port = .host) :
    decodeHost (encode i) = .ok i :=
  decodeHost_of_decodeRequest (by simpa using decodeRequest_encode hwf hport [])

/-! ### Command words -/

theorem decodeWire_putWord (w : Code) : decodeWire (putWord w) = decodeWord w := by
  simp [decodeWire, putWord, wordOfBytes_high_low]

/-- The 64 ADCV words, each read back with its fields (30_encoding.md R67). -/
theorem decodeWord_adcvWord : ∀ (md : BitVec 2) (dcp : BitVec 1) (ch : BitVec 3),
    decodeWord (adcvWord md dcp ch) = .ok (.encAdcv md dcp ch) := by decide

/-- The 32 ADAX words, each read back with its fields (30_encoding.md R68). -/
theorem decodeWord_adaxWord : ∀ (md : BitVec 2) (chg : BitVec 3),
    decodeWord (adaxWord md chg) = .ok (.encAdax md chg) := by decide

theorem decodeWire_encode {i : Instr} (hport : i.port = .wire) : decodeWire (encode i) = .ok i := by
  cases i with
  | encAdcv md dcp ch => exact (decodeWire_putWord _).trans (decodeWord_adcvWord md dcp ch)
  | encAdax md chg => exact (decodeWire_putWord _).trans (decodeWord_adaxWord md chg)
  | encRdcva | encRdcvb | encRdcvc | encRdcvd | encRdauxa | encRdauxb | encRdcfg | encWrcfg
  | encClrcell | encClraux => rfl
  | _ => cases hport

/-- Settles O46: the requests by `decodeHost_encode`, the command words by `decodeWire_encode`. -/
theorem decodeInvertsEncode : Obligations.DecodeInvertsEncode := by
  intro i hwf
  cases hport : i.port with
  | host => exact decodeHost_encode hwf hport
  | wire => exact decodeWire_encode hport

/-- A word with the fixed bits of an ADCV word is the ADCV word of its fields: each of the 16 bits is a fixed one or
one of a field. -/
theorem adcvWord_of_isAdcvWord {w : Code} (h : isAdcvWord w = true) :
    adcvWord (w.extractLsb' 7 2) (w.extractLsb' 4 1) (w.extractLsb' 0 3) = w := by
  have hfixed : w &&& 0xFE68 = 0x0260 := by simpa [isAdcvWord] using h
  ext k hk
  have hbit := congrArg (·.getLsbD k) hfixed
  interval_cases k <;> simp [adcvWord, BitVec.getLsbD_eq_getElem] at hbit ⊢ <;> simp [hbit]

theorem adaxWord_of_isAdaxWord {w : Code} (h : isAdaxWord w = true) :
    adaxWord (w.extractLsb' 7 2) (w.extractLsb' 0 3) = w := by
  have hfixed : w &&& 0xFE78 = 0x0460 := by simpa [isAdaxWord] using h
  ext k hk
  have hbit := congrArg (·.getLsbD k) hfixed
  interval_cases k <;> simp [adaxWord, BitVec.getLsbD_eq_getElem] at hbit ⊢ <;> simp [hbit]

/-- One row of the table of command words: the word is the row's, or a later row's. -/
theorem row_of_ok {p : Prop} [Decidable p] {j i : Instr} {later : Except DecodeError Instr}
    (h : (if p then .ok j else later) = .ok i) : (p ∧ j = i) ∨ later = .ok i := by
  split at h
  next hp => exact .inl ⟨hp, Except.ok.inj h⟩
  next => exact .inr h

/-- A word that decodes is the one its instruction encodes to: a conversion word by its fixed bits, every other word
because it is the word of its row. -/
theorem decodeWord_sound {w : Code} {i : Instr} (h : decodeWord w = .ok i) :
    i.port = .wire ∧ encode i = putWord w := by
  unfold decodeWord at h
  obtain ⟨hadcv, rfl⟩ | h := row_of_ok h
  · exact ⟨rfl, congrArg putWord (adcvWord_of_isAdcvWord hadcv)⟩
  obtain ⟨hadax, rfl⟩ | h := row_of_ok h
  · exact ⟨rfl, congrArg putWord (adaxWord_of_isAdaxWord hadax)⟩
  iterate 10
    obtain ⟨rfl, rfl⟩ | h := row_of_ok h
    · exact ⟨rfl, rfl⟩
  cases h

/-- Settles O47. -/
theorem eachWordHasOneInstruction : Obligations.EachWordHasOneInstruction :=
  fun _ _ h => (decodeWord_sound h).2

/-- Settles O48: eight closed words. -/
theorem tableWordsDecode : Obligations.TableWordsDecode := by
  refine ⟨rfl, rfl, rfl, rfl, ?_, ?_, rfl, rfl⟩ <;> decide

/-! ### The words of the opcode table, placed -/

theorem zeroOperandRequest_mod (w : Nat) : zeroOperandRequest (w % 256) = zeroOperandRequest w := by
  have hop : BitVec.ofNat 8 (w % 256) = BitVec.ofNat 8 w := BitVec.eq_of_toNat_eq (by simp)
  rw [zeroOperandRequest, hop, zeroOperandRequest]

/-- A selector with zero operands is decoded from its own bytes as it is from the zeros that follow it: the 13
operations one by one, and an undefined selector either way. -/
theorem decodeHost_tableRequest (w : Nat) :
    decodeHost (tableRequest w) = (decodeRequest (zeroOperandRequest w)).map Prod.fst := by
  have hrows : ∀ k < 13, decodeHost (tableRequest k) = (decodeRequest (zeroOperandRequest k)).map Prod.fst := by
    decide
  have hmod : tableRequest (w % 256) = tableRequest w := by
    have hop : BitVec.ofNat 8 (w % 256) = BitVec.ofNat 8 w := BitVec.eq_of_toNat_eq (by simp)
    simp only [tableRequest, zeroOperandRequest_mod, hop]
  by_cases hw : w % 256 < 13
  · rw [← hmod, ← zeroOperandRequest_mod]
    exact hrows _ hw
  · have hhop : 0x0C < BitVec.ofNat 8 w := by
      rw [BitVec.lt_def, BitVec.toNat_ofNat]
      show 12 < w % 256
      omega
    have hreq : decodeRequest (zeroOperandRequest w) = .error (.undefinedHop (BitVec.ofNat 8 w)) :=
      decodeOperands_undefinedHop hhop _
    simp only [tableRequest, hreq]
    exact decodeHost_undefinedHop hhop []

theorem fetch_placeRequest (msg : List Byte) (s : State) : fetch (placeRequest msg s) = some (decodeHost msg) := rfl

/-- An encoder call that was placed is presented with its own bytes: the fields of a conversion word stand in the
sticky registers (30_encoding.md R67, R68). -/
theorem fetchBytes_placeWord {i : Instr} (hport : i.port = .wire) (s : State) :
    fetchBytes (placeWord i s) = some (.wire, encode i) := by
  cases i with
  | encAdcv md dcp ch => rfl
  | encAdax md chg => rfl
  | encRdcva | encRdcvb | encRdcvc | encRdcvd | encRdauxa | encRdauxb | encRdcfg | encWrcfg
  | encClrcell | encClraux => rfl
  | _ => cases hport

theorem fetch_placeWord {i : Instr} (hport : i.port = .wire) (s : State) :
    fetch (placeWord i s) = some (.ok i) := by
  simp [fetch, fetchBytes_placeWord hport, decode, decodeWire_encode hport]

theorem placeWord_idle {i : Instr} (hport : i.port = .wire) (s : State) :
    (placeWord i s).host.active = none ∧ Reliable (placeWord i s) := by
  cases i with
  | encAdcv md dcp ch => exact ⟨rfl, rfl, rfl⟩
  | encAdax md chg => exact ⟨rfl, rfl, rfl⟩
  | encRdcva | encRdcvb | encRdcvc | encRdcvd | encRdauxa | encRdauxb | encRdcfg | encWrcfg
  | encClrcell | encClraux => exact ⟨rfl, rfl, rfl⟩
  | _ => cases hport

/-! A word of the table is read as a selector or as a command word, and placed as what it is read as. -/

theorem decodeRequest_of_decodeTableWord {nbits w : Nat} {i : Instr} (hbits : nbits ≤ 8)
    (h : decodeTableWord nbits w = some i) : ∃ rest, decodeRequest (zeroOperandRequest w) = .ok (i, rest) := by
  rw [decodeTableWord, if_pos hbits] at h
  cases hreq : decodeRequest (zeroOperandRequest w) with
  | error e => rw [hreq] at h; cases h
  | ok r => rw [hreq] at h; cases h; exact ⟨_, rfl⟩

theorem decodeWire_of_decodeTableWord {nbits w : Nat} {i : Instr} (hbits : ¬ nbits ≤ 8)
    (h : decodeTableWord nbits w = some i) : decodeWire (tableCommandBytes w) = .ok i := by
  rw [decodeTableWord, if_neg hbits] at h
  cases hwire : decodeWire (tableCommandBytes w) with
  | error e => rw [hwire] at h; cases h
  | ok j => rw [hwire] at h; cases h; rfl

theorem withFetchWord_of_selector {nbits : Nat} (hbits : nbits ≤ 8) (w : Nat) (s : State) :
    s.withFetchWord nbits w = placeRequest (tableRequest w) s := if_pos hbits

theorem withFetchWord_of_command {nbits w : Nat} {i : Instr} (hbits : ¬ nbits ≤ 8)
    (hwire : decodeWire (tableCommandBytes w) = .ok i) (s : State) : s.withFetchWord nbits w = placeWord i s := by
  rw [State.withFetchWord, placeTableWord, if_neg hbits, hwire]

/-- Settles O51: a selector by `decodeHost_tableRequest`, a command word by `fetch_placeWord`. -/
theorem placedWordIsFetched : Obligations.PlacedWordIsFetched := by
  intro s nbits w i h
  by_cases hbits : nbits ≤ 8
  · obtain ⟨rest, hreq⟩ := decodeRequest_of_decodeTableWord hbits h
    have hdecode : decodeHost (tableRequest w) = .ok i := by
      rw [decodeHost_tableRequest, hreq]
      rfl
    rw [withFetchWord_of_selector hbits, fetch_placeRequest, hdecode]
    exact ⟨rfl, rfl, rfl, rfl⟩
  · have hwire := decodeWire_of_decodeTableWord hbits h
    have hport : i.port = .wire := by
      rw [tableCommandBytes, decodeWire_putWord] at hwire
      exact (decodeWord_sound hwire).1
    rw [withFetchWord_of_command hbits hwire]
    exact ⟨fetch_placeWord hport s, placeWord_idle hport s⟩

end Sys2Proof
end

section
/-! Proofs about the checksum as a function of its bytes (40_checksum.md R91, R96, R97, R99): only 15 bits of the
remainder count; with the default table they are the bit-serial register, which is linear over exclusive or. -/

namespace Sys2Proof.Machine

/-! ### The 15 bits that count -/

/-- The table index is bits 7 to 14 of the remainder, taken with the byte. -/
theorem pecIndex_eq_extractLsb' (r : BitVec 16) (b : Byte) :
    pecIndex r b = (r.setWidth 15).extractLsb' 7 8 ^^^ b := by
  ext k hk
  simp [pecIndex, BitVec.getLsbD_eq_getElem, show 7 + k < 15 by omega, show k < 16 by omega]

/-- So the low 15 bits of the next remainder need only the low 15 bits of this one, and of the table. -/
theorem setWidth_pecStep (table : Vector (BitVec 16) 256) (r : BitVec 16) (b : Byte) :
    (pecStep table r b).setWidth 15 = (r.setWidth 15 <<< 8) ^^^
      (tableAt table ((r.setWidth 15).extractLsb' 7 8 ^^^ b)).setWidth 15 := by
  rw [pecStep, pecIndex_eq_extractLsb', BitVec.setWidth_xor]
  congr 1
  ext k hk
  simp

/-- Bit 15 is shifted out when the remainder is doubled (40_checksum.md R93). -/
theorem pec15_eq_append (table : Vector (BitVec 16) 256) (bytes : List Byte) :
    pec15 table bytes = (pecRem table bytes).setWidth 15 ++ (0 : BitVec 1) := by
  apply BitVec.eq_of_toNat_eq
  rw [pec15_toNat, BitVec.toNat_append, Nat.shiftLeft_eq, BitVec.toNat_setWidth]
  simp
  omega

theorem setWidth_pecRem_congr {t1 t2 : Vector (BitVec 16) 256}
    (h : ∀ i : BitVec 8, (tableAt t1 i).setWidth 15 = (tableAt t2 i).setWidth 15) (bytes : List Byte) :
    (pecRem t1 bytes).setWidth 15 = (pecRem t2 bytes).setWidth 15 := by
  induction bytes using List.reverseRecOn with
  | nil => rfl
  | append_singleton bytes b ih => rw [pecRem_concat, pecRem_concat, setWidth_pecStep, setWidth_pecStep, ih, h]

/-- Settles O3. -/
theorem pecIgnoresTableBit15 : Obligations.PecIgnoresTableBit15 := by
  intro t1 t2 h bytes
  rw [pec15_eq_append, pec15_eq_append, setWidth_pecRem_congr h]

/-! ### The bit-serial register is linear -/

theorem serialBit_eq_xor (q : BitVec 15) (bit : Bool) :
    serialBit q bit = (q <<< 1) ^^^ if (bit ^^ q.getLsbD 14) then 0x4599 else 0 := by
  unfold serialBit
  split <;> simp

/-- Exclusive or goes through one bit: through the shift, and through the feedback, which is taken or not. -/
theorem serialBit_xor (q q' : BitVec 15) (x x' : Bool) :
    serialBit (q ^^^ q') (x ^^ x') = serialBit q x ^^^ serialBit q' x' := by
  have hfeedback : ∀ a a' : Bool, (if (a ^^ a') then (0x4599 : BitVec 15) else 0) =
      (if a then 0x4599 else 0) ^^^ if a' then 0x4599 else 0 := by decide
  have hbits : ((x ^^ x') ^^ (q ^^^ q').getLsbD 14) = ((x ^^ q.getLsbD 14) ^^ (x' ^^ q'.getLsbD 14)) := by
    rw [BitVec.getLsbD_xor, Bool.xor_assoc, Bool.xor_assoc, Bool.xor_left_comm x']
  rw [serialBit_eq_xor, hbits, hfeedback, BitVec.shiftLeft_xor_distrib, serialBit_eq_xor, serialBit_eq_xor]
  ac_rfl

theorem serialByte_xor (q q' : BitVec 15) (b b' : Byte) :
    serialByte (q ^^^ q') (b ^^^ b') = serialByte q b ^^^ serialByte q' b' := by
  simp only [serialByte, List.foldl, BitVec.getLsbD_xor, serialBit_xor]

/-- Settles O4: the 256 entries one by one. -/
theorem defaultTableIsGenerated : Obligations.DefaultTableIsGenerated := by
  unfold Obligations.DefaultTableIsGenerated
  decide +kernel

/-- A byte into a register that holds `i` at the top and nothing below leaves entry `i` of the default table. -/
theorem serialByte_top : ∀ i : BitVec 8,
    serialByte (i.setWidth 15 <<< 7) 0 = (tableAt Config.table i).setWidth 15 := by decide +kernel

/-- A byte meets the top of the register bit by bit, so it cancels an equal one. -/
theorem serialByte_cancel : ∀ b : Byte, serialByte (b.setWidth 15 <<< 7) b = 0 := by decide +kernel

/-- The seven bits below are only shifted. -/
theorem serialByte_low : ∀ l : BitVec 7, serialByte (l.setWidth 15) 0 = l.setWidth 15 <<< 8 := by decide +kernel

theorem register_eq_top_xor_low (q : BitVec 15) :
    ((q.extractLsb' 7 8).setWidth 15 <<< 7) ^^^ (q.extractLsb' 0 7).setWidth 15 = q := by
  ext k hk
  by_cases h : k < 7
  · simp [h, hk, BitVec.getLsbD_eq_getElem]
  · simp [h, hk, BitVec.getLsbD_eq_getElem, show k - 7 < 8 by omega, show 7 + (k - 7) = k by omega]

theorem shiftLeft_eq_low (q : BitVec 15) : (q.extractLsb' 0 7).setWidth 15 <<< 8 = q <<< 8 := by
  ext k hk
  by_cases h : k < 8
  · simp [h]
  · simp [h, show k - 8 < 7 by omega, BitVec.getLsbD_eq_getElem, show k - 8 < 15 by omega]

/-- One byte into the bit-serial register is one step of the default table: the register is its top xor its low part,
and the top xor the byte is the index (40_checksum.md R91, R97). -/
theorem serialByte_eq_table (q : BitVec 15) (b : Byte) :
    serialByte q b = (q <<< 8) ^^^ (tableAt Config.table (q.extractLsb' 7 8 ^^^ b)).setWidth 15 := by
  have hsplit : q = ((q.extractLsb' 7 8 ^^^ b).setWidth 15 <<< 7) ^^^
      (b.setWidth 15 <<< 7 ^^^ (q.extractLsb' 0 7).setWidth 15) := by
    have hcancel (u v : BitVec 15) : u ^^^ (u ^^^ v) = v := by simp
    conv_lhs => rw [← register_eq_top_xor_low q]
    rw [BitVec.setWidth_xor, BitVec.shiftLeft_xor_distrib, BitVec.xor_assoc, hcancel]
  calc serialByte q b
      = serialByte (((q.extractLsb' 7 8 ^^^ b).setWidth 15 <<< 7) ^^^
          (b.setWidth 15 <<< 7 ^^^ (q.extractLsb' 0 7).setWidth 15)) (0 ^^^ (b ^^^ 0)) := by
        rw [← hsplit, show 0 ^^^ (b ^^^ 0) = b by simp]
    _ = (q <<< 8) ^^^ (tableAt Config.table (q.extractLsb' 7 8 ^^^ b)).setWidth 15 := by
        rw [serialByte_xor, serialByte_xor, serialByte_top, serialByte_cancel, serialByte_low, shiftLeft_eq_low,
          BitVec.xor_comm, show (0 : BitVec 15) ^^^ q <<< 8 = q <<< 8 by simp]

/-! ### The default table and the bit-serial form -/

/-- The low 15 bits of the remainder are the register. -/
theorem setWidth_pecRem_default (bytes : List Byte) :
    (pecRem Config.table bytes).setWidth 15 = bytes.foldl serialByte 0x0010 := by
  induction bytes using List.reverseRecOn with
  | nil => rfl
  | append_singleton bytes b ih =>
    rw [pecRem_concat, setWidth_pecStep, ih, ← serialByte_eq_table, List.foldl_append]
    rfl

theorem pec15_default (bytes : List Byte) : pec15 Config.table bytes = serialPec bytes := by
  rw [pec15_eq_append, setWidth_pecRem_default, serialPec]

/-- Settles O5. -/
theorem pecEqualsBitSerialForm : Obligations.PecEqualsBitSerialForm := pec15_default

/-! ### Equal lengths: the checksum is affine -/

theorem serialBytes_xor (q q' : BitVec 15) {a b : List Byte} (h : a.length = b.length) :
    (List.zipWith (· ^^^ ·) a b).foldl serialByte (q ^^^ q') =
      a.foldl serialByte q ^^^ b.foldl serialByte q' := by
  induction a generalizing b q q' with
  | nil => rw [List.length_eq_zero_iff.mp h.symm]; rfl
  | cons x a ih =>
    obtain ⟨y, b, rfl⟩ := List.exists_cons_of_length_eq_add_one h.symm
    simp only [List.zipWith_cons_cons, List.foldl_cons, serialByte_xor]
    exact ih _ _ (Nat.succ.inj h)

theorem serialPec_eq_append (bytes : List Byte) :
    serialPec bytes = bytes.foldl serialByte 0x0010 ++ (0 : BitVec 1) := rfl

theorem append_zero_xor (q q' : BitVec 15) :
    (q ^^^ q') ++ (0 : BitVec 1) = (q ++ (0 : BitVec 1)) ^^^ (q' ++ (0 : BitVec 1)) := by
  rw [BitVec.xor_append, BitVec.xor_self]
  rfl

/-- Settles O7: the three seeds of the right side are one, `0x0010 ^ 0x0010 ^ 0x0010`. -/
theorem pecIsAffine : Obligations.PecIsAffine := by
  intro a b h
  have hzero : List.zipWith (· ^^^ ·) (List.zipWith (· ^^^ ·) a b) (List.replicate a.length 0) =
      List.zipWith (· ^^^ ·) a b := by
    refine List.ext_getElem (by simp [h]) fun i _ _ => by simp
  have hlen : (List.zipWith (· ^^^ ·) a b).length = (List.replicate a.length (0 : Byte)).length := by simp [h]
  have hseed : (0x0010 : BitVec 15) = 0x0010 ^^^ 0x0010 ^^^ 0x0010 := by decide
  simp only [pec15_default, serialPec_eq_append]
  rw [← append_zero_xor, ← append_zero_xor, ← serialBytes_xor _ _ h, ← serialBytes_xor _ _ hlen, hzero, ← hseed]

/-! ### A difference is never lost -/

/-- A bit 14 that is shifted out comes back in bit 0, so no register but zero is shifted to zero. -/
theorem eq_zero_of_serialBit_eq_zero {q : BitVec 15} (h : serialBit q false = 0) : q = 0 := by
  rw [serialBit_eq_xor, Bool.false_xor] at h
  cases htop : q.getLsbD 14 with
  | true =>
    have hlow := congrArg (·.getLsbD 0) h
    simp [htop] at hlow
  | false =>
    ext k hk
    obtain rfl | hlt := Nat.eq_or_lt_of_le (Nat.le_of_lt_succ hk)
    · simpa [BitVec.getLsbD_eq_getElem] using htop
    · have hnext := congrArg (·.getLsbD (k + 1)) h
      rw [htop] at hnext
      have hbelow : k + 1 < 15 := by omega
      simpa [hbelow, BitVec.getLsbD_eq_getElem hk] using hnext

theorem eq_zero_of_serialByte_eq_zero {q : BitVec 15} (h : serialByte q 0 = 0) : q = 0 := by
  have hbit (k : Nat) : (0 : Byte).getLsbD k = false := BitVec.getLsbD_zero
  simp only [serialByte, List.foldl, hbit] at h
  iterate 8 apply eq_zero_of_serialBit_eq_zero at h
  exact h

/-- Equal bytes keep two registers apart. -/
theorem serialByte_injective (b : Byte) {q q' : BitVec 15} (h : serialByte q b = serialByte q' b) : q = q' := by
  have hdiff : serialByte (q ^^^ q') 0 = 0 := by
    rw [show (0 : Byte) = b ^^^ b by simp, serialByte_xor, h, BitVec.xor_self]
    rfl
  exact BitVec.xor_eq_zero_iff.mp (eq_zero_of_serialByte_eq_zero hdiff)

theorem serialBytes_injective (bytes : List Byte) {q q' : BitVec 15}
    (h : bytes.foldl serialByte q = bytes.foldl serialByte q') : q = q' := by
  induction bytes generalizing q q' with
  | nil => exact h
  | cons b bytes ih => exact serialByte_injective b (ih h)

/-- A flipped bit of a byte sets two registers apart: the difference is what that bit alone leaves. -/
theorem serialByte_flip_ne (q : BitVec 15) (b : Byte) {k : Nat} (hk : k < 8) :
    serialByte q (b ^^^ (1#8 <<< k)) ≠ serialByte q b := by
  have hflip : ∀ k < 8, serialByte 0 (1#8 <<< k) ≠ 0 := by decide
  have hdiff : serialByte q (b ^^^ (1#8 <<< k)) = serialByte q b ^^^ serialByte 0 (1#8 <<< k) := by
    rw [← serialByte_xor, show q ^^^ 0 = q by simp]
  intro h
  rw [hdiff] at h
  exact hflip k hk (by simpa using h)

theorem append_zero_injective {q q' : BitVec 15} (h : q ++ (0 : BitVec 1) = q' ++ (0 : BitVec 1)) : q = q' := by
  have hnat := congrArg BitVec.toNat h
  simp only [BitVec.toNat_append, Nat.shiftLeft_eq] at hnat
  exact BitVec.eq_of_toNat_eq (by simpa using hnat)

theorem serialPec_injective {a b : List Byte} (h : serialPec a = serialPec b) :
    a.foldl serialByte 0x0010 = b.foldl serialByte 0x0010 := by
  rw [serialPec_eq_append, serialPec_eq_append] at h
  exact append_zero_injective h

/-- Settles O6: the flip sets the registers apart, and the bytes after it keep them so. -/
theorem pecDetectsSingleBitFlip : Obligations.PecDetectsSingleBitFlip := by
  intro pre post b k hk h
  rw [pec15_default, pec15_default] at h
  have hregs := serialPec_injective h
  rw [List.foldl_append, List.foldl_append] at hregs
  exact serialByte_flip_ne _ b hk (serialBytes_injective post hregs)

/-! ### Frames and blocks -/

theorem pecverify_pec15 (table : Vector (BitVec 16) 256) (bytes : List Byte) :
    pecverify table bytes (wordOfBytes (highByte (pec15 table bytes)) (lowByte (pec15 table bytes))) = true := by
  rw [wordOfBytes_high_low, pecverify_eq_decide, decide_eq_true_iff]

theorem frame_eq (table : Vector (BitVec 16) 256) (w : Code) :
    frame table w = [highByte w, lowByte w, highByte (pec15 table [highByte w, lowByte w]),
      lowByte (pec15 table [highByte w, lowByte w])] := rfl

/-- Settles O11. -/
theorem frameIsWordAndPec : Obligations.FrameIsWordAndPec :=
  fun table w => ⟨frame_eq table w, wordOfBytes_high_low w, pecverify_pec15 table [highByte w, lowByte w]⟩

/-- Settles O17: `checkBlock_eq`, the flag told apart by the comparison. -/
theorem checkSetsFlagOnMismatchOnly : Obligations.CheckSetsFlagOnMismatchOnly := by
  intro blk s _
  have hflag : (s.regs.pecErr || mismatch s.par.table blk) =
      if pec15 s.par.table (blk.take 6) ≠ wordOfBytes (blk.getD 6 0) (blk.getD 7 0) then true
      else s.regs.pecErr := by
    have hmismatch : mismatch s.par.table blk =
        !decide (pec15 s.par.table (blk.take 6) = wordOfBytes (blk.getD 6 0) (blk.getD 7 0)) := rfl
    rw [hmismatch]
    by_cases h : pec15 s.par.table (blk.take 6) = wordOfBytes (blk.getD 6 0) (blk.getD 7 0)
    · rw [decide_eq_true h, if_neg (not_not.mpr h), Bool.not_true, Bool.or_false]
    · rw [decide_eq_false h, if_pos h, Bool.not_false, Bool.or_true]
  rw [checkBlock_eq, hflag]
  rfl

/-- A block with its own PEC matches. -/
theorem mismatch_withPec (table : Vector (BitVec 16) 256) {data : List Byte} (h : data.length = 6) :
    mismatch table (withPec table data) = false := by
  have hdata : blockData (withPec table data) = data := by simp [blockData, withPec, h]
  have hpec : blockPec (withPec table data) = pec15 table data := by
    simp [blockPec, withPec, pecBytes, h, wordOfBytes_high_low]
  rw [mismatch, hdata, hpec, pecverify_eq_decide]
  simp

end Sys2Proof.Machine
end

section
/-! Proofs about CONFIGURE and the two conversion encoders (41_command_encoder.md R110, R112, R113). -/

namespace Sys2Proof.Machine

theorem legalConfig_eq_true {p : Params} {mode dcp ch chg : Nat}
    (hmode : mode = p.modeFast.toNat ∨ mode = p.modeNormal.toNat ∨ mode = p.modeFiltered.toNat)
    (hdcp : dcp ≤ 1) (hch : ch ≤ 7) (hchg : chg ≤ 7) : legalConfig p mode dcp ch chg = true := by
  rw [legalConfig, legalMode, decide_eq_true hmode, decide_eq_true ⟨hdcp, hch, hchg⟩]
  rfl

theorem legalMode_default (mode : Nat) : legalMode Config.params mode = true ↔ mode = 1 ∨ mode = 2 ∨ mode = 3 :=
  decide_eq_true_iff

/-- Settles O10. -/
theorem configureWritesAllFields : Obligations.ConfigureWritesAllFields :=
  ⟨fun _ _ _ _ _ hmode hdcp hch hchg => if_pos (legalConfig_eq_true hmode hdcp hch hchg), legalMode_default⟩

/-- An encoder run on its own writes REM and hands out its frame (41_command_encoder.md R111, log 18). -/
theorem runEncoder_eq (c : WireCmd) (s : State) :
    runEncoder c s = { s with
      regs.rem := pecRem s.par.table (opcodeBytes (commandWord c s))
      host.encOut := frame s.par.table (commandWord c s) } := rfl

theorem exec_encAdcv (md : BitVec 2) (dcp : BitVec 1) (ch : BitVec 3) (s : State) :
    exec (.encAdcv md dcp ch) s = .next (runEncoder .adcv s) := rfl

theorem exec_encAdax (md : BitVec 2) (chg : BitVec 3) (s : State) :
    exec (.encAdax md chg) s = .next (runEncoder .adax s) := rfl

/-- A conversion word decodes to its fields, so no two field values share one. -/
theorem adcvWord_injective {md md' : BitVec 2} {dcp dcp' : BitVec 1} {ch ch' : BitVec 3}
    (h : adcvWord md dcp ch = adcvWord md' dcp' ch') : md = md' ∧ dcp = dcp' ∧ ch = ch' := by
  have hdecode := decodeWord_adcvWord md dcp ch
  rw [h, decodeWord_adcvWord] at hdecode
  cases hdecode
  exact ⟨rfl, rfl, rfl⟩

theorem adaxWord_injective {md md' : BitVec 2} {chg chg' : BitVec 3} (h : adaxWord md chg = adaxWord md' chg') :
    md = md' ∧ chg = chg' := by
  have hdecode := decodeWord_adaxWord md chg
  rw [h, decodeWord_adaxWord] at hdecode
  cases hdecode
  exact ⟨rfl, rfl⟩

/-- Settles O12. The three example frames are closed checksums with the default table. -/
theorem encAdcvFrame : Obligations.EncAdcvFrame := by
  refine ⟨fun md dcp ch s => ?_, fun _ _ _ _ _ _ => adcvWord_injective, rfl, ?_, ?_, ?_⟩
  · rw [exec_encAdcv, runEncoder_eq]
    rfl
  all_goals decide +kernel

/-- Settles O13. The two example frames are closed checksums with the default table. -/
theorem encAdaxFrame : Obligations.EncAdaxFrame := by
  refine ⟨fun md chg s => ?_, fun _ _ _ _ => adaxWord_injective, rfl, ?_, ?_⟩
  · rw [exec_encAdax, runEncoder_eq]
    rfl
  all_goals decide +kernel

/-- Settles O15: `exec_fixedEncoder` for each of the ten. -/
theorem fixedEncodersUseTheirOwnWord : Obligations.FixedEncodersUseTheirOwnWord := by
  intro s e he
  have hc : fixedEncoderCommand e.1 = some e.2 := by revert e; decide
  rw [exec_fixedEncoder hc]
  rfl

end Sys2Proof.Machine
end

section
/-! Proofs about the sample operations (43_orchestrator.md R170 to R173, R228, R230): what one attempt leaves, with and
without a mismatch; the first attempt, which follows the start of the conversion; the retries; and the bound of a
sample with a count. -/

namespace Sys2Proof.Machine

/-! ### The reads of one attempt -/

theorem ReadFrame.orch {s t : State} (h : ReadFrame s t) : t.regs.orch = s.regs.orch := by
  rw [h.regs]
  rfl

theorem ReadFrame.retries {s t : State} (h : ReadFrame s t) : t.regs.retries = s.regs.retries := by
  rw [h.regs]
  rfl

/-- The reads of one attempt: every group of every device. -/
def readAll (a : Sample) (s : State) : State := readGroups a.bank (List.range a.bank.groups) a.n s

/-- A read of the selector ALL is the same reads, with a response. -/
theorem readCall_zero (a : Sample) (s : State) :
    readCall a.bank 0 a.n s = (readAll a s).respond (readStatus (readAll a s))
      (.codes (codesPayload a.bank (selectedChannels a.bank 0) a.n (readAll a s))) := rfl

theorem readCommands_length (b : Bank) : (readCommands b).length = b.groups := by cases b <;> rfl

theorem readAll_bus (a : Sample) (s : State) :
    (readAll a s).bus = s.bus.afterTraffic (readTrace s a.n (readCommands a.bank)) (8 * a.n * a.bank.groups) :=
  readCall_bus a.bank (Nat.zero_le _) a.n s

theorem readAll_pecErr {a : Sample} (hn : a.n ≤ 16) (s : State) :
    (readAll a s).regs.pecErr = anyMismatch s.par s.bus (readCommands a.bank).length a.n := by
  rw [readCommands_length]
  exact readCall_pecErr a.bank 0 hn s

theorem readFrame_readAll (a : Sample) (s : State) : ReadFrame s (readAll a s) := readFrame_readGroups _ _ _ s

theorem readAll_codeAt {a : Sample} (hn : a.n ≤ 16) (s : State) (d : Nat) {c : Nat} (hc : c < a.bank.channels) :
    (readAll a s).codeAt a.bank d c = if d < a.n then streamCode s.bus a.n d c else s.codeAt a.bank d c := by
  have h := readCall_codeAt a.bank 0 hn s d hc
  rw [readCall_zero, codeAt_respond] at h
  simpa [streamCode] using h

/-- One group read leaves the array of the other bank, for any number of devices. -/
theorem readOne_keeps_other {b b' : Bank} (hb : b' ≠ b) (n : Nat) (s : State) (gi d c : Nat) :
    (readOne b n s gi).codeAt b' d c = s.codeAt b' d c := by
  rw [readOne, readDevices_codeAt, if_neg (by tauto), transact_loadFrame]
  cases b' <;> rfl

theorem readOnes_keeps_other {b b' : Bank} (hb : b' ≠ b) (n : Nat) (gis : List Nat) (s : State) (d c : Nat) :
    (gis.foldl (readOne b n) s).codeAt b' d c = s.codeAt b' d c := by
  induction gis using List.reverseRecOn with
  | nil => rfl
  | append_singleton gis gi ih => rw [readOnes_concat, readOne_keeps_other hb, ih]

theorem readGroups_keeps_other {b b' : Bank} (hb : b' ≠ b) (gis : List Nat) (n : Nat) (s : State) (d c : Nat) :
    (readGroups b gis n s).codeAt b' d c = s.codeAt b' d c :=
  (readOnes_keeps_other hb n gis _ d c).trans (codeAt_setPecErr b' d c false s)

theorem readGroups_cell_keeps_aux {b : Bank} (hb : b = .cell) (gis : List Nat) (n : Nat) (s : State) :
    (readGroups b gis n s).regs.aux = s.regs.aux :=
  vector_eq_of_slotAt_eq fun d c => readGroups_keeps_other (b' := .aux) (by simp [hb]) gis n s d c

theorem readGroups_aux_keeps_cell {b : Bank} (hb : b = .aux) (gis : List Nat) (n : Nat) (s : State) :
    (readGroups b gis n s).regs.cell = s.regs.cell :=
  vector_eq_of_slotAt_eq fun d c => readGroups_keeps_other (b' := .cell) (by simp [hb]) gis n s d c

theorem Bank.eq_aux : ∀ b : Bank, b ≠ .cell → b = .aux
  | .cell, h => absurd rfl h
  | .aux, _ => rfl

theorem Bank.eq_cell : ∀ b : Bank, b ≠ .aux → b = .cell
  | .cell, _ => rfl
  | .aux, h => absurd rfl h

theorem readAll_regs (a : Sample) (s : State) :
    (readAll a s).regs = { s.regs with
      rem := (readAll a s).regs.rem, pecErr := (readAll a s).regs.pecErr
      cell := if a.bank = .cell then (readAll a s).regs.cell else s.regs.cell
      aux := if a.bank = .aux then (readAll a s).regs.aux else s.regs.aux
      txbuf := (readAll a s).regs.txbuf, txlen := 4
      rxbuf := (readAll a s).regs.rxbuf, rxlen := BitVec.ofNat 8 (8 * a.n) } := by
  have hcell : (if a.bank = .cell then (readAll a s).regs.cell else s.regs.cell) = (readAll a s).regs.cell := by
    split
    next => rfl
    next hb => exact (readGroups_aux_keeps_cell (a.bank.eq_aux hb) _ _ s).symm
  have haux : (if a.bank = .aux then (readAll a s).regs.aux else s.regs.aux) = (readAll a s).regs.aux := by
    split
    next => rfl
    next hb => exact (readGroups_cell_keeps_aux (a.bank.eq_cell hb) _ _ s).symm
  rw [hcell, haux]
  exact readCall_regs a.bank 0 a.n s

/-- The payload of a sample is made of the bytes of the attempt alone. -/
theorem samplePayload_readAll {a : Sample} (hn : a.n ≤ 16) (s : State) :
    samplePayload a (readAll a s) = streamPayload s.par s.bus a.bank a.n := by
  have hcodes : codesPayload a.bank (List.range a.bank.channels) a.n (readAll a s) =
      (List.range a.n).flatMap fun d => (List.range a.bank.channels).map fun c => streamCode s.bus a.n d c := by
    refine List.flatMap_congr fun d hd => List.map_congr_left fun c hc => ?_
    rw [readAll_codeAt hn s d (List.mem_range.mp hc), if_pos (List.mem_range.mp hd)]
  obtain ⟨b, n, m⟩ := a
  cases b with
  | cell =>
    simp only [samplePayload, hcodes, (readFrame_readAll _ s).par, List.map_flatMap, List.map_map]
    rfl
  | aux => simp only [samplePayload, hcodes]; rfl

/-! ### One attempt -/

theorem attempt_eq_ite (a : Sample) (s : State) :
    attempt a s =
      if (readAll a s).regs.pecErr then sampleRetry a (readAll a s) else sampleDone a (readAll a s) := rfl

theorem sampleRetry_of_unbounded {a : Sample} (h : a.maxRetry = .unbounded) (s : State) :
    sampleRetry a s = s.setActive (some a) := by rw [sampleRetry, h]

theorem sampleRetry_of_count {a : Sample} {k : BitVec 16} (h : a.maxRetry = .count k) (s : State) :
    sampleRetry a s =
      if k ≤ s.regs.retries then raiseRetryExhausted s
      else (s.setRetries (s.regs.retries + 1)).setActive (some a) := by rw [sampleRetry, h]

/-- The retry test writes ORCH, RETRIES and the host port. -/
theorem sampleRetry_eq (a : Sample) (s : State) :
    sampleRetry a s = { s with
      regs.orch := (sampleRetry a s).regs.orch, regs.retries := (sampleRetry a s).regs.retries
      host := (sampleRetry a s).host } := by
  cases h : a.maxRetry with
  | unbounded => rw [sampleRetry_of_unbounded h]; rfl
  | count k => rw [sampleRetry_of_count h]; split <;> rfl

/-- After its reads an attempt writes ORCH, RETRIES and the host port. -/
theorem attempt_eq (a : Sample) (s : State) :
    attempt a s = { readAll a s with
      regs.orch := (attempt a s).regs.orch, regs.retries := (attempt a s).regs.retries
      host := (attempt a s).host } := by
  rw [attempt_eq_ite]
  split
  · exact sampleRetry_eq a (readAll a s)
  · rfl

theorem attempt_bus (a : Sample) (s : State) :
    (attempt a s).bus = s.bus.afterTraffic (readTrace s a.n (readCommands a.bank)) (8 * a.n * a.bank.groups) :=
  (congrArg State.bus (attempt_eq a s)).trans (readAll_bus a s)

theorem attempt_past (a : Sample) (s : State) : (attempt a s).past = s.past :=
  (congrArg State.past (attempt_eq a s)).trans (readFrame_readAll a s).past

theorem attempt_par (a : Sample) (s : State) : (attempt a s).par = s.par :=
  (congrArg State.par (attempt_eq a s)).trans (readFrame_readAll a s).par

theorem attempt_codeAt {a : Sample} (hn : a.n ≤ 16) (s : State) (d : Nat) {c : Nat} (hc : c < a.bank.channels) :
    (attempt a s).codeAt a.bank d c = if d < a.n then streamCode s.bus a.n d c else s.codeAt a.bank d c := by
  rw [← readAll_codeAt hn s d hc, attempt_eq]
  cases a.bank <;> rfl

/-- The registers an attempt leaves, ORCH and RETRIES aside. -/
theorem attempt_regs {a : Sample} (hn : a.n ≤ 16) (s : State) :
    (attempt a s).regs = { s.regs with
      rem := (attempt a s).regs.rem, pecErr := anyMismatch s.par s.bus (readCommands a.bank).length a.n
      orch := (attempt a s).regs.orch, retries := (attempt a s).regs.retries
      cell := if a.bank = .cell then (attempt a s).regs.cell else s.regs.cell
      aux := if a.bank = .aux then (attempt a s).regs.aux else s.regs.aux
      txbuf := (attempt a s).regs.txbuf, txlen := 4
      rxbuf := (attempt a s).regs.rxbuf, rxlen := BitVec.ofNat 8 (8 * a.n) } := by
  rw [← readAll_pecErr hn, attempt_eq]
  generalize (attempt a s).regs.orch = o, (attempt a s).regs.retries = r
  exact congrArg (fun regs : Regs => { regs with orch := o, retries := r }) (readAll_regs a s)

/-- An attempt without a mismatch ends the sample (43_orchestrator.md R170). -/
theorem attempt_outcome_of_match {a : Sample} (hn : a.n ≤ 16) {s : State}
    (h : anyMismatch s.par s.bus (readCommands a.bank).length a.n = false) :
    (attempt a s).host = { s.host with
      active := none, responses := s.host.responses ++ [⟨.ok, streamPayload s.par s.bus a.bank a.n⟩] } ∧
    (attempt a s).regs.orch = .done ∧ (attempt a s).regs.retries = s.regs.retries := by
  rw [attempt_eq_ite, readAll_pecErr hn, h, if_neg Bool.false_ne_true, ← samplePayload_readAll hn,
    ← (readFrame_readAll a s).host]
  exact ⟨rfl, rfl, (readFrame_readAll a s).retries⟩

/-- An attempt with a mismatch is followed by another one, unless the count is used up (43_orchestrator.md R170,
R173). -/
theorem attempt_outcome_of_mismatch {a : Sample} (hn : a.n ≤ 16) {s : State}
    (h : anyMismatch s.par s.bus (readCommands a.bank).length a.n = true) :
    match a.maxRetry with
    | .unbounded => (attempt a s).host = { s.host with active := some a } ∧
        (attempt a s).regs.orch = s.regs.orch ∧ (attempt a s).regs.retries = s.regs.retries
    | .count k =>
      if s.regs.retries < k then (attempt a s).host = { s.host with active := some a } ∧
        (attempt a s).regs.orch = s.regs.orch ∧ (attempt a s).regs.retries = s.regs.retries + 1
      else (attempt a s).host = { s.host with
          active := none, responses := s.host.responses ++ [⟨.retryExhausted, .absent⟩] } ∧
        (attempt a s).regs.orch = .fail ∧ (attempt a s).regs.retries = s.regs.retries := by
  have hretry : attempt a s = sampleRetry a (readAll a s) := by
    rw [attempt_eq_ite, readAll_pecErr hn, h, if_pos rfl]
  rw [hretry, ← (readFrame_readAll a s).host, ← (readFrame_readAll a s).orch,
    ← (readFrame_readAll a s).retries]
  cases hm : a.maxRetry with
  | unbounded => rw [sampleRetry_of_unbounded hm]; exact ⟨rfl, rfl, rfl⟩
  | count k =>
    simp only [sampleRetry_of_count hm]
    by_cases hk : (readAll a s).regs.retries < k
    · rw [if_pos hk, if_neg (BitVec.not_le.mpr hk)]
      exact ⟨rfl, rfl, rfl⟩
    · rw [if_neg hk, if_pos (BitVec.not_lt.mp hk)]
      exact ⟨rfl, rfl, rfl⟩

/-! ### Retries -/

theorem reliable_attempt (a : Sample) {s : State} (hs : Reliable s) : Reliable (attempt a s) := by
  rw [Reliable, attempt_bus]
  exact hs

/-- Under a reliable environment the next attempt is the next step, and nothing cuts it (log 19). -/
theorem step_retry {a : Sample} {s : State} (hactive : s.host.active = some a) (hs : Reliable s) :
    step s = .next (attempt a s) := by
  rw [step_of_active hs.2 hactive, settle_reliable s _ hs (reliable_attempt a hs)]

theorem host_of_active {a : Sample} {s : State} (h : s.host.active = some a) :
    { s.host with active := some a } = s.host := by
  rw [← h]

/-- Settles O28. -/
theorem retryAttemptGood : Obligations.RetryAttemptGood := by
  intro a s hactive _ hn hs hmatch
  obtain ⟨hhost, horch, hretries⟩ := attempt_outcome_of_match hn hmatch
  refine ⟨attempt a s, step_retry hactive hs, hhost, attempt_bus a s, attempt_past a s, attempt_par a s, ?_,
    fun d c _ hc => attempt_codeAt hn s d hc⟩
  refine (attempt_regs hn s).trans ?_
  rw [hmatch, horch, hretries]

/-- Settles O29. -/
theorem retryAttemptBad : Obligations.RetryAttemptBad := by
  intro a s hactive _ hn hs hmismatch
  have houtcome := attempt_outcome_of_mismatch hn hmismatch
  rw [host_of_active hactive] at houtcome
  refine ⟨attempt a s, step_retry hactive hs, attempt_bus a s, attempt_past a s, attempt_par a s, ?_,
    fun d c _ hc => attempt_codeAt hn s d hc, houtcome⟩
  refine (attempt_regs hn s).trans ?_
  rw [hmismatch]

/-! ### The first attempt -/

/-- START: one command-only transaction, then READ with no retry counted (43_orchestrator.md R170, R171). -/
theorem startSample_eq (b : Bank) (s : State) :
    startSample b s = { s with
      regs.rem := (startSample b s).regs.rem
      regs.txbuf := (startSample b s).regs.txbuf
      regs.txlen := 4
      regs.rxlen := 0
      regs.orch := .read
      regs.retries := 0
      bus.cs := false
      bus.trace := s.bus.trace ++ commandTrace s (startCommand b) } := by
  rw [startSample, sendCommand_eq]
  cases b <;> rfl

theorem startSample_bus (b : Bank) (s : State) :
    (startSample b s).bus = s.bus.afterTraffic (commandTrace s (startCommand b)) 0 := by
  rw [startSample_eq]
  simp [BusPort.afterTraffic]

/-- START receives nothing, so the reads after it find what the chain had before it. -/
theorem startSample_byteAt (b : Bank) (s : State) (i : Nat) : (startSample b s).bus.byteAt i = s.bus.byteAt i := by
  rw [startSample_eq]
  rfl

theorem startSample_par (b : Bank) (s : State) : (startSample b s).par = s.par := by rw [startSample_eq]

theorem startSample_host (b : Bank) (s : State) : (startSample b s).host = s.host := by rw [startSample_eq]

theorem startSample_orch (b : Bank) (s : State) : (startSample b s).regs.orch = .read := by rw [startSample_eq]

theorem startSample_retries (b : Bank) (s : State) : (startSample b s).regs.retries = 0 := by rw [startSample_eq]

theorem readTrace_congr {s t : State} (hpar : t.par = s.par) (hbytes : ∀ i, t.bus.byteAt i = s.bus.byteAt i)
    (n : Nat) (cs : List WireCmd) : readTrace t n cs = readTrace s n cs := by
  simp only [readTrace, readTransaction, hpar, hbytes]

theorem startSample_anyMismatch (b : Bank) (s : State) (k n : Nat) :
    anyMismatch (startSample b s).par (startSample b s).bus k n = anyMismatch s.par s.bus k n := by
  simp only [anyMismatch, streamBlock, startSample_byteAt, startSample_par]

theorem streamCode_congr {b b' : BusPort} (h : ∀ i, b'.byteAt i = b.byteAt i) (n d c : Nat) :
    streamCode b' n d c = streamCode b n d c := by
  simp only [streamCode, streamBlock, h]

theorem startSample_streamPayload (b b' : Bank) (s : State) (n : Nat) :
    streamPayload (startSample b s).par (startSample b s).bus b' n = streamPayload s.par s.bus b' n := by
  simp only [streamPayload, streamCode_congr (startSample_byteAt b s), startSample_par]

/-- The first attempt and the start before it, at the transport port. -/
theorem firstAttempt_bus (b : Bank) (n : Nat) (m : MaxRetry) (s : State) :
    (attempt ⟨b, n, m⟩ (startSample b s)).bus =
      s.bus.afterTraffic (commandTrace s (startCommand b) ++ readTrace s n (readCommands b)) (8 * n * b.groups) := by
  rw [attempt_bus, startSample_bus, readTrace_congr (startSample_par b s) (startSample_byteAt b s),
    BusPort.afterTraffic_afterTraffic, Nat.zero_add]

theorem firstAttempt_regs {n : Nat} (hn : n ≤ 16) {b : Bank} {m : MaxRetry} {s t : State}
    (ht : attempt ⟨b, n, m⟩ (startSample b s) = t) :
    t.regs = { s.regs with
      rem := t.regs.rem, pecErr := anyMismatch s.par s.bus (readCommands b).length n
      orch := t.regs.orch, retries := t.regs.retries
      cell := if b = .cell then t.regs.cell else s.regs.cell
      aux := if b = .aux then t.regs.aux else s.regs.aux
      txbuf := t.regs.txbuf, txlen := 4, rxbuf := t.regs.rxbuf, rxlen := BitVec.ofNat 8 (8 * n) } := by
  have h := attempt_regs (a := ⟨b, n, m⟩) hn (startSample b s)
  rw [ht, startSample_anyMismatch, startSample_eq] at h
  exact h

theorem firstAttempt_codeAt {n : Nat} (hn : n ≤ 16) (b : Bank) (m : MaxRetry) (s : State) (d : Nat) {c : Nat}
    (hc : c < b.channels) :
    (attempt ⟨b, n, m⟩ (startSample b s)).codeAt b d c =
      if d < n then streamCode s.bus n d c else s.codeAt b d c := by
  have hkept : (startSample b s).codeAt b d c = s.codeAt b d c := by
    rw [startSample_eq]
    cases b <;> rfl
  rw [← hkept, ← streamCode_congr (startSample_byteAt b s)]
  exact attempt_codeAt (a := ⟨b, n, m⟩) hn (startSample b s) d hc

theorem exec_sample_of_legal {n : Nat} (h1 : 1 ≤ n) (hn : n ≤ 16) {s : State} (hcfg : s.regs.cfgValid = true)
    (b : Bank) (m : MaxRetry) :
    exec (sampleInstr b n m) s = .next (attempt ⟨b, n, m⟩ (startSample b s)) := by
  have hlegal : legalSample n s = true := by rw [legalSample, legalCount_eq_true h1 hn, hcfg]; rfl
  cases b <;> exact if_pos hlegal

theorem firstAttempt_past (b : Bank) (n : Nat) (m : MaxRetry) (s : State) :
    (attempt ⟨b, n, m⟩ (startSample b s)).past = s.past := by
  rw [attempt_past, startSample_eq]

theorem firstAttempt_par (b : Bank) (n : Nat) (m : MaxRetry) (s : State) :
    (attempt ⟨b, n, m⟩ (startSample b s)).par = s.par := by
  rw [attempt_par, startSample_par]

/-- A first attempt without a mismatch ends the sample. -/
theorem firstAttempt_outcome_of_match {n : Nat} (hn : n ≤ 16) {b : Bank} {s : State}
    (h : anyMismatch s.par s.bus (readCommands b).length n = false) (m : MaxRetry) :
    let t := attempt ⟨b, n, m⟩ (startSample b s)
    t.host = { s.host with
      active := none, responses := s.host.responses ++ [⟨.ok, streamPayload s.par s.bus b n⟩] } ∧
    t.regs.orch = .done ∧ t.regs.retries = 0 := by
  have houtcome := attempt_outcome_of_match (a := ⟨b, n, m⟩) hn (s := startSample b s)
    ((startSample_anyMismatch b s _ n).trans h)
  rw [startSample_streamPayload, startSample_host, startSample_retries] at houtcome
  exact houtcome

/-- A first attempt with a mismatch is followed by a retry, unless the count is 0. -/
theorem firstAttempt_outcome_of_mismatch {n : Nat} (hn : n ≤ 16) {b : Bank} {s : State}
    (h : anyMismatch s.par s.bus (readCommands b).length n = true) (m : MaxRetry) :
    let t := attempt ⟨b, n, m⟩ (startSample b s)
    match m with
    | .unbounded => t.host = { s.host with active := some ⟨b, n, m⟩ } ∧ t.regs.orch = .read ∧ t.regs.retries = 0
    | .count k =>
      if k = 0 then t.host = { s.host with
          active := none, responses := s.host.responses ++ [⟨.retryExhausted, .absent⟩] } ∧
        t.regs.orch = .fail ∧ t.regs.retries = 0
      else t.host = { s.host with active := some ⟨b, n, m⟩ } ∧ t.regs.orch = .read ∧ t.regs.retries = 1 := by
  have houtcome := attempt_outcome_of_mismatch (a := ⟨b, n, m⟩) hn (s := startSample b s)
    ((startSample_anyMismatch b s _ n).trans h)
  cases m with
  | unbounded => simpa only [startSample_host, startSample_orch, startSample_retries] using houtcome
  | count k =>
    simp only [startSample_host, startSample_orch, startSample_retries] at houtcome ⊢
    by_cases hk : k = 0
    · rw [if_pos hk]
      rwa [if_neg (by simp [hk])] at houtcome
    · rw [if_neg hk]
      rwa [if_pos (by bv_omega)] at houtcome

/-- Settles O26. -/
theorem sampleFirstAttemptGood : Obligations.SampleFirstAttemptGood := by
  intro b n m s h1 hn hcfg hmatch
  obtain ⟨hhost, horch, hretries⟩ := firstAttempt_outcome_of_match hn hmatch m
  refine ⟨_, exec_sample_of_legal h1 hn hcfg b m, hhost, firstAttempt_bus b n m s, firstAttempt_past b n m s,
    firstAttempt_par b n m s, ?_, fun d c _ hc => firstAttempt_codeAt hn b m s d hc⟩
  refine (firstAttempt_regs hn rfl).trans ?_
  rw [hmatch, horch, hretries]

/-- Settles O27. -/
theorem sampleFirstAttemptBad : Obligations.SampleFirstAttemptBad := by
  intro b n m s h1 hn hcfg hmismatch
  refine ⟨_, exec_sample_of_legal h1 hn hcfg b m, firstAttempt_bus b n m s, firstAttempt_past b n m s,
    firstAttempt_par b n m s, ?_, fun d c _ hc => firstAttempt_codeAt hn b m s d hc,
    firstAttempt_outcome_of_mismatch hn hmismatch m⟩
  refine (firstAttempt_regs hn rfl).trans ?_
  rw [hmismatch]

/-! ### The bound of a sample with a count -/

/-- The sample that was going on in `s` has ended in `t`: one response more, at most `g` transactions more, and no more
retries than the count. -/
structure SampleEnds (s t : State) (m : BitVec 16) (g : Nat) : Prop where
  active : t.host.active = none
  responses : t.host.responses.length = s.host.responses.length + 1
  trace : t.bus.trace.length ≤ s.bus.trace.length + 4 * g
  retries : t.regs.retries ≤ m

/-- What came before the sample's next attempt counts too. -/
theorem SampleEnds.after {s u t : State} {m : BitVec 16} {g g' : Nat} (h : SampleEnds u t m g)
    (hresponses : u.host.responses = s.host.responses) (htrace : u.bus.trace.length = s.bus.trace.length + 4 * g') :
    SampleEnds s t m (g' + g) where
  active := h.active
  responses := hresponses ▸ h.responses
  trace := by have := h.trace; omega
  retries := h.retries

theorem SampleEnds.mono {s t : State} {m : BitVec 16} {g g' : Nat} (h : SampleEnds s t m g) (hg : g ≤ g') :
    SampleEnds s t m g' :=
  ⟨h.active, h.responses, h.trace.trans (by omega), h.retries⟩

theorem run_succ_of_step (M : Host.Core) {s t : M.State} (h : M.step s = .next t) (k : Nat) :
    M.run (k + 1) s = M.run k t := by
  simp only [Host.Core.run, h]

theorem core_run_succ {s t : State} (h : step s = .next t) (k : Nat) :
    Sys2Proof.core.run (k + 1) s = Sys2Proof.core.run k t :=
  run_succ_of_step Sys2Proof.core h k

theorem attempt_trace_length (a : Sample) (s : State) :
    (attempt a s).bus.trace.length = s.bus.trace.length + 4 * a.bank.groups := by
  rw [attempt_bus, BusPort.afterTraffic_trace, List.length_append, readTrace_length, readCommands_length]

/-- With a count an attempt ends the sample, or counts a retry below the bound. -/
theorem attempt_of_count {a : Sample} {m : BitVec 16} (hm : a.maxRetry = .count m) (hn : a.n ≤ 16) {s : State}
    (hle : s.regs.retries ≤ m) :
    SampleEnds s (attempt a s) m a.bank.groups ∨
    (s.regs.retries < m ∧ (attempt a s).host = { s.host with active := some a } ∧
      (attempt a s).regs.retries = s.regs.retries + 1) := by
  have htrace := (attempt_trace_length a s).le
  cases h : anyMismatch s.par s.bus (readCommands a.bank).length a.n with
  | false =>
    obtain ⟨hhost, -, hretries⟩ := attempt_outcome_of_match hn h
    exact .inl ⟨by rw [hhost], by simp [hhost], htrace, hretries ▸ hle⟩
  | true =>
    have houtcome := attempt_outcome_of_mismatch hn h
    simp only [hm] at houtcome
    split at houtcome
    next hlt =>
      obtain ⟨hhost, -, hretries⟩ := houtcome
      exact .inr ⟨hlt, hhost, hretries⟩
    next =>
      obtain ⟨hhost, -, hretries⟩ := houtcome
      exact .inl ⟨by rw [hhost], by simp [hhost], htrace, hretries ▸ hle⟩

/-- A sample in READ ends after at most as many attempts as its count leaves, and one (70_reset_and_hazards.md R230):
by induction on what the count leaves. -/
theorem sampleEnds_of_active {a : Sample} {m : BitVec 16} (hm : a.maxRetry = .count m) (hn : a.n ≤ 16) (left : Nat)
    {s : State} (hactive : s.host.active = some a) (hs : Reliable s) (hle : s.regs.retries ≤ m)
    (hleft : m.toNat - s.regs.retries.toNat = left) :
    ∃ k t, k ≤ left + 1 ∧ Sys2Proof.core.run k s = .next t ∧ SampleEnds s t m (a.bank.groups * (left + 1)) := by
  induction left using Nat.strong_induction_on generalizing s with
  | _ left ih =>
    have hstep := step_retry hactive hs
    obtain hends | ⟨hlt, hhost, hretries⟩ := attempt_of_count hm hn hle
    · exact ⟨1, attempt a s, by omega, core_run_succ hstep 0, hends.mono (Nat.le_mul_of_pos_right _ (by omega))⟩
    · obtain ⟨left, rfl⟩ : ∃ left', left = left' + 1 := ⟨left - 1, by bv_omega⟩
      obtain ⟨k, t, hk, hrun, hends⟩ := ih left (by omega) (s := attempt a s) (by rw [hhost])
        (reliable_attempt a hs) (by rw [hretries]; bv_omega) (by rw [hretries]; bv_omega)
      refine ⟨k + 1, t, by omega, (core_run_succ hstep k).trans hrun, ?_⟩
      exact (hends.after (by rw [hhost]) (attempt_trace_length a s)).mono (by rw [Nat.mul_add _ (left + 1)]; omega)

/-- Settles O30: the first attempt ends the sample, or the retries do by `sampleEnds_of_active`; the start is one
transaction more. -/
theorem boundedSampleEnds : Obligations.BoundedSampleEnds := by
  intro b n m s h1 hn hcfg hs
  have hexec := exec_sample_of_legal h1 hn hcfg b (.count m)
  have hstart : (startSample b s).bus.trace.length = s.bus.trace.length + 4 * 1 := by
    rw [startSample_bus, BusPort.afterTraffic_trace, List.length_append]
    rfl
  have hreliable : Reliable (startSample b s) := by rw [Reliable, startSample_bus]; exact hs
  have hbound {k : Nat} {t : State} {g : Nat} (hk : k ≤ m.toNat)
      (hrun : Sys2Proof.core.run k (attempt ⟨b, n, .count m⟩ (startSample b s)) = .next t)
      (hends : SampleEnds (startSample b s) t m g) (hg : g ≤ b.groups * (m.toNat + 1)) :
      ∃ s1 k t, exec (sampleInstr b n (.count m)) s = .next s1 ∧ k ≤ m.toNat ∧
        Sys2Proof.core.run k s1 = .next t ∧ t.host.active = none ∧
        t.host.responses.length = s.host.responses.length + 1 ∧
        t.bus.trace.length ≤ s.bus.trace.length + 4 * (1 + (readCommands b).length * (m.toNat + 1)) ∧
        t.regs.retries ≤ m := by
    have h := (hends.mono hg).after (congrArg HostPort.responses (startSample_host b s)) hstart
    rw [readCommands_length]
    exact ⟨_, k, t, hexec, hk, hrun, h.active, h.responses, h.trace, h.retries⟩
  obtain hends | ⟨hlt, hhost, hretries⟩ := attempt_of_count (a := ⟨b, n, .count m⟩) rfl hn (s := startSample b s)
    (by rw [startSample_retries]; bv_omega)
  · exact hbound (Nat.zero_le _) rfl hends (Nat.le_mul_of_pos_right _ (by omega))
  · rw [startSample_retries] at hlt hretries
    obtain ⟨k, t, hk, hrun, hends⟩ := sampleEnds_of_active (a := ⟨b, n, .count m⟩) rfl hn (m.toNat - 1)
      (s := attempt ⟨b, n, .count m⟩ (startSample b s)) (by rw [hhost]) (reliable_attempt _ hreliable)
      (by rw [hretries]; bv_omega) (by rw [hretries]; rfl)
    have hpos : m.toNat - 1 + 1 = m.toNat := by bv_omega
    rw [hpos] at hk hends
    exact hbound hk hrun (hends.after (by rw [hhost]) (attempt_trace_length _ _))
      (by rw [Nat.mul_add_one, Nat.add_comm])

end Sys2Proof.Machine
end

section
/-! Proofs about one instruction and one step as wholes: what an instruction that is not malformed leaves, which
registers it keeps, what it delivers to the host, and everything a step can end in. -/

namespace Sys2Proof.Machine

/-! ### What an instruction leaves -/

/-- What an instruction leaves when its operands are legal. -/
def completed (i : Instr) (s : State) : State :=
  match i with
  | .peccomp bytes => (s.runPec bytes).respond .ok (.code (pec15 s.par.table bytes))
  | .pecverify bytes expected =>
    (s.runPec bytes).respond .ok (.matched (pecverify s.par.table bytes expected))
  | .configure mode dcp ch chg =>
    (s.setConfig (BitVec.ofNat 2 mode) (BitVec.ofNat 1 dcp) (BitVec.ofNat 3 ch) (BitVec.ofNat 3 chg)).respond
      .ok .absent
  | .rdcv g n => readCall .cell g n s
  | .rdaux g n => readCall .aux g n s
  | .wrcfg n blocks => (transact .wrcfg 0 (loadBurst n blocks s)).respond .ok .absent
  | .rdcfg n => readCfgCall n s
  | .samplev n m => attempt ⟨.cell, n, m⟩ (startSample .cell s)
  | .sampleaux n m => attempt ⟨.aux, n, m⟩ (startSample .aux s)
  | .adcv => (sendCommand .adcv s).respond .ok .absent
  | .adax => (sendCommand .adax s).respond .ok .absent
  | .clrcell => (sendCommand .clrcell s).respond .ok .absent
  | .clraux => (sendCommand .clraux s).respond .ok .absent
  | .encAdcv _ _ _ => runEncoder .adcv s
  | .encAdax _ _ => runEncoder .adax s
  | .encRdcva => runEncoder .rdcva s
  | .encRdcvb => runEncoder .rdcvb s
  | .encRdcvc => runEncoder .rdcvc s
  | .encRdcvd => runEncoder .rdcvd s
  | .encRdauxa => runEncoder .rdauxa s
  | .encRdauxb => runEncoder .rdauxb s
  | .encRdcfg => runEncoder .rdcfg s
  | .encWrcfg => runEncoder .wrcfg s
  | .encClrcell => runEncoder .clrcell s
  | .encClraux => runEncoder .clraux s

/-! The operands of an instruction that is not malformed (60_exceptions.md R193). -/

theorem not_malformed_count {n : Nat} (h : ¬ (n < 1 ∨ 16 < n)) : 1 ≤ n ∧ n ≤ 16 := by omega

theorem not_malformed_read {b : Bank} {g n : Nat} {s : State} (h : ¬ malformed (readInstr b g n) s) :
    g ≤ b.groups ∧ 1 ≤ n ∧ n ≤ 16 := by
  cases b <;> simpa only [malformed, readInstr, Bank.groups, not_or, not_lt] using h

theorem not_malformed_sample {b : Bank} {n : Nat} {m : MaxRetry} {s : State}
    (h : ¬ malformed (sampleInstr b n m) s) : 1 ≤ n ∧ n ≤ 16 ∧ s.regs.cfgValid = true := by
  cases b <;> simpa only [malformed, sampleInstr, not_or, not_lt, Bool.not_eq_false] using h

theorem not_malformed_configure {mode dcp ch chg : Nat} {s : State}
    (h : ¬ malformed (.configure mode dcp ch chg) s) :
    (mode = s.par.modeFast.toNat ∨ mode = s.par.modeNormal.toNat ∨ mode = s.par.modeFiltered.toNat) ∧
      dcp ≤ 1 ∧ ch ≤ 7 ∧ chg ≤ 7 := by
  simp only [malformed, not_or, not_and_or, not_not, not_lt] at h
  tauto

theorem exec_of_not_malformed {i : Instr} {s : State} (h : ¬ malformed i s) : exec i s = .next (completed i s) := by
  cases i with
  | configure mode dcp ch chg =>
    obtain ⟨hmode, hdcp, hch, hchg⟩ := not_malformed_configure h
    exact if_pos (legalConfig_eq_true hmode hdcp hch hchg)
  | rdcv g n =>
    obtain ⟨hg, h1, hn⟩ := not_malformed_read (b := .cell) h
    exact exec_rdcv_of_legal hg h1 hn s
  | rdaux g n =>
    obtain ⟨hg, h1, hn⟩ := not_malformed_read (b := .aux) h
    exact exec_rdaux_of_legal hg h1 hn s
  | wrcfg n blocks =>
    obtain ⟨h1, hn⟩ := not_malformed_count h
    exact exec_wrcfg_of_legal h1 hn blocks s
  | rdcfg n =>
    obtain ⟨h1, hn⟩ := not_malformed_count h
    exact exec_rdcfg_of_legal h1 hn s
  | samplev n m =>
    obtain ⟨h1, hn, hcfg⟩ := not_malformed_sample (b := .cell) h
    exact exec_sample_of_legal h1 hn hcfg .cell m
  | sampleaux n m =>
    obtain ⟨h1, hn, hcfg⟩ := not_malformed_sample (b := .aux) h
    exact exec_sample_of_legal h1 hn hcfg .aux m
  | adcv => exact exec_soleCommand (c := .adcv) rfl h
  | adax => exact exec_soleCommand (c := .adax) rfl h
  | _ => rfl

/-- Every instruction ends in a next state: a rejection, or what it leaves when it is legal. -/
theorem exec_cases (i : Instr) (s : State) :
    (malformed i s ∧ exec i s = .next (raiseConfigError s)) ∨
    (¬ malformed i s ∧ exec i s = .next (completed i s)) := by
  by_cases h : malformed i s
  · exact .inl ⟨h, exec_of_malformed h⟩
  · exact .inr ⟨h, exec_of_not_malformed h⟩

/-- So what a rejection keeps and a legal operation keeps, `exec` keeps. -/
theorem exec_induction {motive : State → Prop} {i : Instr} {s t : State} (h : exec i s = .next t)
    (rejected : motive (raiseConfigError s)) (legal : ¬ malformed i s → motive (completed i s)) : motive t := by
  obtain ⟨-, hexec⟩ | ⟨hlegal, hexec⟩ := exec_cases i s <;> (rw [hexec] at h; cases h)
  · exact rejected
  · exact legal hlegal

/-! ### Which registers an instruction writes -/

/-- The registers that only the reads of the chain and the sequencer write (10_state.md R18 to R23). -/
def Regs.results (r : Regs) : Bool × Vector (Vector Code 12) 16 × Vector (Vector Code 6) 16 ×
    Vector (Vector Byte 8) 16 × Orch × BitVec 16 :=
  (r.pecErr, r.cell, r.aux, r.cfgrx, r.orch, r.retries)

/-- From `s` to `t` each of those registers changed by its own operations only (10_state.md R18 to R23). -/
structure WritesOwn (i : Instr) (s t : State) : Prop where
  pecErr : (∀ b g n, i ≠ readInstr b g n) → (∀ n, i ≠ .rdcfg n) → (∀ b n m, i ≠ sampleInstr b n m) →
    t.regs.pecErr = s.regs.pecErr
  cell : (∀ g n, i ≠ .rdcv g n) → (∀ n m, i ≠ .samplev n m) → t.regs.cell = s.regs.cell
  aux : (∀ g n, i ≠ .rdaux g n) → (∀ n m, i ≠ .sampleaux n m) → t.regs.aux = s.regs.aux
  cfgrx : (∀ n, i ≠ .rdcfg n) → t.regs.cfgrx = s.regs.cfgrx
  sequencer : (∀ b n m, i ≠ sampleInstr b n m) → t.regs.orch = s.regs.orch ∧ t.regs.retries = s.regs.retries

theorem WritesOwn.of_results {s t : State} (h : t.regs.results = s.regs.results) (i : Instr) : WritesOwn i s t := by
  simp only [Regs.results, Prod.mk.injEq] at h
  obtain ⟨hpec, hcell, haux, hcfgrx, horch, hretries⟩ := h
  exact ⟨fun _ _ _ => hpec, fun _ _ => hcell, fun _ _ => haux, fun _ => hcfgrx, fun _ => ⟨horch, hretries⟩⟩

/-- A read call writes the array of its own bank, PEC_ERR, and nothing of the sequencer. -/
theorem readCall_keeps (b : Bank) (g n : Nat) (s : State) :
    (readCall b g n s).regs.cfgrx = s.regs.cfgrx ∧ (readCall b g n s).regs.orch = s.regs.orch ∧
    (readCall b g n s).regs.retries = s.regs.retries := by
  rw [readCall_regs]
  exact ⟨rfl, rfl, rfl⟩

/-- An attempt writes the array of its own bank and leaves CFGRX. -/
theorem attempt_keeps (a : Sample) (s : State) :
    (a.bank = .aux → (attempt a s).regs.cell = s.regs.cell) ∧
    (a.bank = .cell → (attempt a s).regs.aux = s.regs.aux) ∧ (attempt a s).regs.cfgrx = s.regs.cfgrx := by
  rw [attempt_eq]
  exact ⟨fun h => readGroups_aux_keeps_cell h _ _ s, fun h => readGroups_cell_keeps_aux h _ _ s,
    readOnes_cfgrx _ _ _ (s.setPecErr false)⟩

theorem firstAttempt_keeps (a : Sample) (b : Bank) (s : State) :
    (a.bank = .aux → (attempt a (startSample b s)).regs.cell = s.regs.cell) ∧
    (a.bank = .cell → (attempt a (startSample b s)).regs.aux = s.regs.aux) ∧
    (attempt a (startSample b s)).regs.cfgrx = s.regs.cfgrx := by
  have h := attempt_keeps a (startSample b s)
  generalize attempt a (startSample b s) = t at h ⊢
  rwa [startSample_eq] at h

theorem completed_writesOwn (i : Instr) (s : State) : WritesOwn i s (completed i s) := by
  cases i with
  | rdcv g n =>
    obtain ⟨hcfgrx, horch, hretries⟩ := readCall_keeps .cell g n s
    exact ⟨fun h _ _ => absurd rfl (h .cell g n), fun h _ => absurd rfl (h g n),
      fun _ _ => readGroups_cell_keeps_aux rfl _ n s, fun _ => hcfgrx, fun _ => ⟨horch, hretries⟩⟩
  | rdaux g n =>
    obtain ⟨hcfgrx, horch, hretries⟩ := readCall_keeps .aux g n s
    exact ⟨fun h _ _ => absurd rfl (h .aux g n), fun _ _ => readGroups_aux_keeps_cell rfl _ n s,
      fun h _ => absurd rfl (h g n), fun _ => hcfgrx, fun _ => ⟨horch, hretries⟩⟩
  | rdcfg n =>
    have hregs := readCfgCall_regs n s
    refine ⟨fun _ h _ => absurd rfl (h n), fun _ _ => ?_, fun _ _ => ?_, fun h => absurd rfl (h n), fun _ => ?_⟩ <;>
      rw [completed, hregs]
    exact ⟨rfl, rfl⟩
  | samplev n m =>
    obtain ⟨-, haux, hcfgrx⟩ := firstAttempt_keeps ⟨.cell, n, m⟩ .cell s
    exact ⟨fun _ _ h => absurd rfl (h .cell n m), fun _ h => absurd rfl (h n m), fun _ _ => haux rfl,
      fun _ => hcfgrx, fun h => absurd rfl (h .cell n m)⟩
  | sampleaux n m =>
    obtain ⟨hcell, -, hcfgrx⟩ := firstAttempt_keeps ⟨.aux, n, m⟩ .aux s
    exact ⟨fun _ _ h => absurd rfl (h .aux n m), fun _ _ => hcell rfl, fun _ h => absurd rfl (h n m),
      fun _ => hcfgrx, fun h => absurd rfl (h .aux n m)⟩
  | wrcfg n blocks =>
    refine .of_results ?_ _
    rw [completed, State.respond_regs, transact_eq_afterTraffic, loadBurst_eq]
    rfl
  | _ => exact .of_results (by rfl) _

theorem exec_writesOwn {i : Instr} {s t : State} (h : exec i s = .next t) : WritesOwn i s t :=
  exec_induction h (.of_results (by rfl) i) fun _ => completed_writesOwn i s

/-- Settles O40. -/
theorem onlyReadsWritePecErr : Obligations.OnlyReadsWritePecErr := fun _ _ _ h => (exec_writesOwn h).pecErr

/-- Settles O41: `exec_writesOwn` for the instructions, `attempt_keeps` for the retries. -/
theorem writersOfResultsAndSequencer : Obligations.WritersOfResultsAndSequencer := by
  refine ⟨fun i s t h => ?_, fun a s t hreset hactive h => ?_⟩
  · obtain ⟨-, hcell, haux, hcfgrx, hsequencer⟩ := exec_writesOwn h
    exact ⟨hcell, haux, hcfgrx, hsequencer⟩
  · rw [step_of_active hreset hactive] at h
    obtain ⟨hangIn, rfl⟩ := eq_setDeadlines_of_settle hreset h
    exact attempt_keeps a s

/-! ### What an instruction answers -/

/-- From `s` to `t` the instruction gave no response, or one that it may give (60_exceptions.md R191). -/
def Answered (i : Instr) (s t : State) : Prop :=
  t.host.responses = s.host.responses ∨
    ∃ r, t.host.responses = s.host.responses ++ [r] ∧ mayReturn i r.st = true ∧
      (r.st = .configError ∨ r.st = .retryExhausted → r.payload = .absent)

theorem Answered.ok {i : Instr} {s t : State} {p : Payload} (hi : mayReturn i .ok = true)
    (h : t.host.responses = s.host.responses ++ [⟨.ok, p⟩]) : Answered i s t :=
  .inr ⟨_, h, hi, by simp⟩

theorem Answered.absent {i : Instr} {s t : State} {st : Status} (hi : mayReturn i st = true)
    (h : t.host.responses = s.host.responses ++ [⟨st, .absent⟩]) : Answered i s t :=
  .inr ⟨_, h, hi, fun _ => rfl⟩

/-- The response of a read: its payload goes with ST_OK and with ST_PEC_ERROR. -/
theorem Answered.read {i : Instr} {s t : State} {p : Payload} {err : Bool} (hok : mayReturn i .ok = true)
    (hpec : mayReturn i .pecError = true)
    (h : t.host.responses = s.host.responses ++ [⟨if err then .pecError else .ok, p⟩]) : Answered i s t := by
  cases err with
  | false => exact .ok hok h
  | true => exact .inr ⟨_, h, hpec, by simp⟩

/-- What the retry test does with the sample: another attempt, with RETRIES within the count, or the end, with one
response (43_orchestrator.md R170, R173). -/
theorem attempt_cases (a : Sample) (s : State) :
    ((attempt a s).host = { s.host with active := some a } ∧ (attempt a s).regs.orch = s.regs.orch ∧
      ∀ k, a.maxRetry = .count k → (attempt a s).regs.retries ≤ k) ∨
    (∃ p, (attempt a s).host = { s.host with active := none, responses := s.host.responses ++ [⟨.ok, p⟩] }) ∨
    (attempt a s).host = { s.host with
      active := none, responses := s.host.responses ++ [⟨.retryExhausted, .absent⟩] } := by
  rw [attempt_eq_ite, ← (readFrame_readAll a s).host, ← (readFrame_readAll a s).orch]
  split
  next =>
    cases hm : a.maxRetry with
    | unbounded => exact .inl (by rw [sampleRetry_of_unbounded hm]; exact ⟨rfl, rfl, nofun⟩)
    | count k =>
      rw [sampleRetry_of_count hm]
      split
      next => exact .inr (.inr rfl)
      next hk =>
        refine .inl ⟨rfl, rfl, ?_⟩
        rintro _ ⟨rfl⟩
        show (readAll a s).regs.retries + 1 ≤ k
        bv_omega
  next => exact .inr (.inl ⟨_, rfl⟩)

theorem attempt_answered {i : Instr} (hok : mayReturn i .ok = true) (hexhausted : mayReturn i .retryExhausted = true)
    (a : Sample) (b : Bank) (s : State) : Answered i s (attempt a (startSample b s)) := by
  have hcases := attempt_cases a (startSample b s)
  rw [startSample_host] at hcases
  obtain ⟨hhost, -⟩ | ⟨p, hhost⟩ | hhost := hcases
  · exact .inl (by rw [hhost])
  · exact .ok hok (by rw [hhost])
  · exact .absent hexhausted (by rw [hhost])

theorem sendCommand_answered {i : Instr} (hi : mayReturn i .ok = true) (c : WireCmd) (s : State) :
    Answered i s ((sendCommand c s).respond .ok .absent) :=
  .ok hi (by rw [sendCommand_eq]; rfl)

theorem completed_answered (i : Instr) (s : State) (h : ¬ malformed i s) : Answered i s (completed i s) := by
  cases i with
  | peccomp bytes => exact .ok rfl rfl
  | pecverify bytes expected => exact .ok rfl rfl
  | configure mode dcp ch chg => exact .ok rfl rfl
  | rdcv g n => exact .read rfl rfl (congrArg HostPort.responses (readCall_host .cell g n s))
  | rdaux g n => exact .read rfl rfl (congrArg HostPort.responses (readCall_host .aux g n s))
  | rdcfg n => exact .read rfl rfl (congrArg HostPort.responses (readCfgCall_host (not_malformed_count h).2 s))
  | wrcfg n blocks =>
    exact .ok rfl (by rw [completed, transact_loadBurst (not_malformed_count h).2]; rfl)
  | samplev n m => exact attempt_answered rfl rfl _ _ s
  | sampleaux n m => exact attempt_answered rfl rfl _ _ s
  | adcv | adax | clrcell | clraux => exact sendCommand_answered rfl _ s
  | _ => exact .inl rfl

theorem mayReturn_configError {i : Instr} {s : State} (h : malformed i s) : mayReturn i .configError = true := by
  cases i with
  | configure | rdcv | rdaux | wrcfg | rdcfg | samplev | sampleaux | adcv | adax => rfl
  | _ => exact h.elim

/-- Settles O32. -/
theorem statusesOfEachOperation : Obligations.StatusesOfEachOperation := by
  intro i s t h
  obtain ⟨hm, hexec⟩ | ⟨hm, hexec⟩ := exec_cases i s <;> (rw [hexec] at h; cases h)
  · exact Answered.absent (mayReturn_configError hm) rfl
  · exact completed_answered i s hm

end Sys2Proof.Machine
end

section
/-! Proofs about one step (70_reset_and_hazards.md R220 to R224): which of its cases a step is, everything it can end
in, and what follows for every step. -/

namespace Sys2Proof.Machine

/-! ### Taking an instruction off its port -/

/-- It writes the inputs of the host port and nothing else. -/
theorem accept_eq (s : State) : accept s = s.setInputs (accept s).host.requests none := by
  unfold accept
  split <;> rfl

theorem accept_par (s : State) : (accept s).par = s.par := by rw [accept_eq]; rfl

theorem accept_past (s : State) : (accept s).past = s.past := by rw [accept_eq]; rfl

theorem accept_responses (s : State) : (accept s).host.responses = s.host.responses := by rw [accept_eq]; rfl

theorem accept_active (s : State) : (accept s).host.active = s.host.active := by rw [accept_eq]; rfl

theorem malformed_accept (i : Instr) (s : State) : malformed i (accept s) ↔ malformed i s := by
  rw [accept_eq]
  exact Iff.rfl

/-! ### The cases of a step -/

theorem step_of_due {s : State} (h : s.bus.resetIn = some 0) : step s = .next (hostReset Cut.none s) := if_pos h

theorem step_of_sampling {a : Sample} {s : State} (hreset : s.bus.resetIn ≠ some 0)
    (hactive : s.host.active = some a) : step s = settle s (attempt a s) := by
  simp [step, hreset, stepRunning, hactive]

theorem step_of_idle {s : State} (hreset : s.bus.resetIn ≠ some 0) (hactive : s.host.active = none) :
    step s = stepIdle s := by
  simp [step, hreset, stepRunning, hactive]

theorem step_of_fetched {i : Instr} {s : State} (hreset : s.bus.resetIn ≠ some 0) (hactive : s.host.active = none)
    (hfetch : fetch s = some (.ok i)) : step s = settleOutcome (accept s) (exec i (accept s)) := by
  simp only [step_of_idle hreset hactive, stepIdle, hfetch]

theorem step_of_error {e : DecodeError} {s : State} (hreset : s.bus.resetIn ≠ some 0)
    (hactive : s.host.active = none) (hfetch : fetch s = some (.error e)) :
    step s = settle (accept s) (raiseConfigError (accept s)) := by
  simp only [step_of_idle hreset hactive, stepIdle, hfetch]

theorem step_of_nothing {s : State} (hreset : s.bus.resetIn ≠ some 0) (hactive : s.host.active = none)
    (hfetch : fetch s = none) : step s = .next s.passMoment := by
  simp only [step_of_idle hreset hactive, stepIdle, hfetch]

/-! ### Everything a step can end in -/

theorem exec_total (i : Instr) (s : State) : ∃ t, exec i s = .next t := by
  obtain ⟨-, h⟩ | ⟨-, h⟩ := exec_cases i s <;> exact ⟨_, h⟩

theorem settle_next_cases {s t u : State} (h : settle s t = .next u) :
    (∃ c, u = hostReset c s) ∨ ∃ hangIn resetIn, u = t.setDeadlines hangIn resetIn := by
  obtain ⟨k, -, hreset, -⟩ | ⟨hnext, -⟩ | ⟨k, -, -, -, hfault⟩ := settle_cases s t
  · rw [hreset] at h
    cases h
    exact .inl ⟨_, rfl⟩
  · rw [hnext] at h
    cases h
    exact .inr ⟨_, _, rfl⟩
  · rw [hfault] at h
    cases h

/-- Everything a step can end in: a reset, the outcome of an attempt, of an instruction or of a rejection with the
deadlines moved on, or an idle moment. -/
inductive StepsTo (s : State) : State → Prop where
  | reset (c : Cut) {s' : State} (hs' : s' = s ∨ s' = accept s) : StepsTo s (hostReset c s')
  | attempted {a : Sample} (hactive : s.host.active = some a) (hangIn resetIn : Option Nat) :
      StepsTo s ((attempt a s).setDeadlines hangIn resetIn)
  | executed {i : Instr} {u : State} (hactive : s.host.active = none) (hfetch : fetch s = some (.ok i))
      (hexec : exec i (accept s) = .next u) (hangIn resetIn : Option Nat) :
      StepsTo s (u.setDeadlines hangIn resetIn)
  | rejected (hactive : s.host.active = none) (hangIn resetIn : Option Nat) :
      StepsTo s ((raiseConfigError (accept s)).setDeadlines hangIn resetIn)
  | idle : StepsTo s s.passMoment

theorem stepsTo_of_step {s t : State} (h : step s = .next t) : StepsTo s t := by
  by_cases hreset : s.bus.resetIn = some 0
  · rw [step_of_due hreset] at h
    cases h
    exact .reset _ (.inl rfl)
  cases hactive : s.host.active with
  | some a =>
    rw [step_of_sampling hreset hactive] at h
    obtain ⟨c, rfl⟩ | ⟨hangIn, resetIn, rfl⟩ := settle_next_cases h
    · exact .reset c (.inl rfl)
    · exact .attempted hactive hangIn resetIn
  | none =>
    match hfetch : fetch s with
    | some (.ok i) =>
      obtain ⟨u, hexec⟩ := exec_total i (accept s)
      rw [step_of_fetched hreset hactive hfetch, hexec] at h
      obtain ⟨c, rfl⟩ | ⟨hangIn, resetIn, rfl⟩ := settle_next_cases h
      · exact .reset c (.inr rfl)
      · exact .executed hactive hfetch hexec hangIn resetIn
    | some (.error e) =>
      rw [step_of_error hreset hactive hfetch] at h
      obtain ⟨c, rfl⟩ | ⟨hangIn, resetIn, rfl⟩ := settle_next_cases h
      · exact .reset c (.inr rfl)
      · exact .rejected hactive hangIn resetIn
    | none =>
      rw [step_of_nothing hreset hactive hfetch] at h
      cases h
      exact .idle

/-! ### No step writes a parameter -/

theorem completed_par (i : Instr) (s : State) : (completed i s).par = s.par := by
  cases i with
  | rdcv g n => exact (readCall_past_par .cell g n s).2
  | rdaux g n => exact (readCall_past_par .aux g n s).2
  | rdcfg n => exact (readCfgCall_past_par n s).2
  | wrcfg n blocks => rw [completed, State.respond_par, transact_eq_afterTraffic, loadBurst_eq]
  | samplev n m => exact firstAttempt_par .cell n m s
  | sampleaux n m => exact firstAttempt_par .aux n m s
  | _ => rfl

theorem exec_par {i : Instr} {s t : State} (h : exec i s = .next t) : t.par = s.par :=
  exec_induction (motive := fun t => t.par = s.par) h rfl fun _ => completed_par i s

/-- Settles O42. -/
theorem parametersAreConstant : Obligations.ParametersAreConstant := by
  intro s t h
  cases stepsTo_of_step h with
  | reset c hs' =>
    obtain rfl | rfl := hs'
    · rfl
    · exact accept_par s
  | attempted hactive hangIn resetIn => exact attempt_par _ s
  | executed hactive hfetch hexec hangIn resetIn => exact (exec_par hexec).trans (accept_par s)
  | rejected hactive hangIn resetIn => exact accept_par s
  | idle => rfl

/-! ### Faults -/

theorem settle_total (s t : State) : (∃ u, settle s t = .next u) ∨
    ((∃ run, settle s t = .fault (.transportHang run)) ∧ s.bus.hangIn ≠ none ∧ s.bus.resetIn = none) := by
  obtain ⟨k, -, hreset, -⟩ | ⟨hnext, -⟩ | ⟨k, hhang, hreset, -, hfault⟩ := settle_cases s t
  · exact .inl ⟨_, hreset⟩
  · exact .inl ⟨_, hnext⟩
  · exact .inr ⟨⟨_, hfault⟩, by simp [hhang], hreset⟩

/-- Settles O34: every instruction has a next state, so only `settle` can fault. -/
theorem onlyAHungAdapterStops : Obligations.OnlyAHungAdapterStops := by
  intro s
  by_cases hreset : s.bus.resetIn = some 0
  · exact .inl ⟨_, step_of_due hreset⟩
  cases hactive : s.host.active with
  | some a =>
    rw [step_of_sampling hreset hactive]
    exact settle_total s _
  | none =>
    rw [← accept_bus s]
    match hfetch : fetch s with
    | some (.ok i) =>
      obtain ⟨t, hexec⟩ := exec_total i (accept s)
      rw [step_of_fetched hreset hactive hfetch, hexec]
      exact settle_total (accept s) t
    | some (.error e) =>
      rw [step_of_error hreset hactive hfetch]
      exact settle_total (accept s) _
    | none => exact .inl ⟨_, step_of_nothing hreset hactive hfetch⟩

/-! ### A reset that is due, and an idle step -/

/-- Settles O36. -/
theorem resetFromAnyState : Obligations.ResetFromAnyState := by
  intro s h
  obtain ⟨hafter, hpar, hpast⟩ := hostReset_afterReset Cut.none s
  refine ⟨_, step_of_due h, hafter, hpar, ?_⟩
  rw [hpast, State.endedRun, Cut.none, List.append_nil]

theorem fetch_eq_none {s : State} (hsel : s.host.encSel = none) (hreq : s.host.requests = []) : fetch s = none := by
  simp [fetch, fetchBytes, hsel, hreq]

/-- Settles O50. -/
theorem idleStepChangesNothing : Obligations.IdleStepChangesNothing := by
  intro s hactive hsel hreq
  have hfetch := fetch_eq_none hsel hreq
  refine ⟨fun hreset => ?_, fun k hreset => ?_⟩
  · rw [step_of_nothing (by simp [hreset]) hactive hfetch, State.passMoment, hreset]
    exact congrArg _ (by rw [← setDeadlines_self s, hreset]; rfl)
  · rw [step_of_nothing (by simp [hreset]) hactive hfetch, State.passMoment, hreset]
    rfl

end Sys2Proof.Machine
end

section
/-! Proofs about the events of an operation and about its being cut short (60_exceptions.md R194,
70_reset_and_hazards.md R221): the events each instruction adds to the trace, how many moments they take, and what a
hang or a reset that falls among them, or after them, leaves. -/

namespace Sys2Proof.Machine

/-! ### No operation reads a deadline

What an operation does is the same whatever the deadlines are: `exec` says what it does when nothing cuts it. -/

theorem readOne_setDeadlines (b : Bank) (n : Nat) (h r : Option Nat) (s : State) (gi : Nat) :
    readOne b n (s.setDeadlines h r) gi = (readOne b n s gi).setDeadlines h r := by
  have hdevice (t : State) (d : Nat) :
      readDevice b gi (t.setDeadlines h r) d = (readDevice b gi t d).setDeadlines h r := by
    cases b <;> rfl
  have htransact : transact (readCommand b gi) (8 * n) (loadFrame (readCommand b gi) (s.setDeadlines h r)) =
      (transact (readCommand b gi) (8 * n) (loadFrame (readCommand b gi) s)).setDeadlines h r := rfl
  rw [readOne, htransact]
  exact List.foldl_hom (State.setDeadlines h r) hdevice

theorem readGroups_setDeadlines (b : Bank) (gis : List Nat) (n : Nat) (h r : Option Nat) (s : State) :
    readGroups b gis n (s.setDeadlines h r) = (readGroups b gis n s).setDeadlines h r := by
  have hclear : (s.setDeadlines h r).setPecErr false = (s.setPecErr false).setDeadlines h r := rfl
  rw [readGroups, hclear]
  exact List.foldl_hom (State.setDeadlines h r) (readOne_setDeadlines b n h r)

theorem codesPayload_setDeadlines (b : Bank) (chans : List Nat) (n : Nat) (h r : Option Nat) (s : State) :
    codesPayload b chans n (s.setDeadlines h r) = codesPayload b chans n s := by
  cases b <;> rfl

theorem readCall_setDeadlines (b : Bank) (g n : Nat) (h r : Option Nat) (s : State) :
    readCall b g n (s.setDeadlines h r) = (readCall b g n s).setDeadlines h r := by
  simp only [readCall, readGroups_setDeadlines, codesPayload_setDeadlines]
  rfl

theorem readCfgCall_setDeadlines (n : Nat) (h r : Option Nat) (s : State) :
    readCfgCall n (s.setDeadlines h r) = (readCfgCall n s).setDeadlines h r := by
  have hdevice (t : State) (d : Nat) :
      readCfgDevice (t.setDeadlines h r) d = (readCfgDevice t d).setDeadlines h r := rfl
  have hdevices (t : State) : (List.range n).foldl readCfgDevice (t.setDeadlines h r) =
      ((List.range n).foldl readCfgDevice t).setDeadlines h r := List.foldl_hom (State.setDeadlines h r) hdevice
  have hresponse : cfgResponse n (s.setDeadlines h r) = (cfgResponse n s).setDeadlines h r := rfl
  simp only [readCfgCall_eq_respond, hresponse, hdevices]
  rfl

theorem burst_setDeadlines (n : Nat) (blocks : List (Vector Byte 6)) (h r : Option Nat) (s : State) :
    transact .wrcfg 0 (loadBurst n blocks (s.setDeadlines h r)) =
      (transact .wrcfg 0 (loadBurst n blocks s)).setDeadlines h r := by
  have hblocks (t : State) : (List.range n).foldl (putBlock blocks n) (t.setDeadlines h r) =
      ((List.range n).foldl (putBlock blocks n) t).setDeadlines h r :=
    List.foldl_hom (State.setDeadlines h r) fun _ _ => rfl
  have hframe : loadFrame .wrcfg (s.setDeadlines h r) = (loadFrame .wrcfg s).setDeadlines h r := rfl
  simp only [loadBurst, hframe, hblocks]
  rfl

theorem attempt_setDeadlines (a : Sample) (h r : Option Nat) (s : State) :
    attempt a (s.setDeadlines h r) = (attempt a s).setDeadlines h r := by
  have hread : readAll a (s.setDeadlines h r) = (readAll a s).setDeadlines h r := readGroups_setDeadlines _ _ _ h r s
  have hdone (t : State) : sampleDone a (t.setDeadlines h r) = (sampleDone a t).setDeadlines h r := by
    simp only [sampleDone, samplePayload]
    cases a.bank <;> rfl
  have hretry (t : State) : sampleRetry a (t.setDeadlines h r) = (sampleRetry a t).setDeadlines h r := by
    cases hm : a.maxRetry with
    | unbounded => rw [sampleRetry_of_unbounded hm, sampleRetry_of_unbounded hm]; rfl
    | count k =>
      rw [sampleRetry_of_count hm, sampleRetry_of_count hm, State.setDeadlines_regs]
      split <;> rfl
  rw [attempt_eq_ite, attempt_eq_ite, hread, State.setDeadlines_regs]
  split
  · exact hretry _
  · exact hdone _

theorem completed_setDeadlines (i : Instr) (h r : Option Nat) (s : State) :
    completed i (s.setDeadlines h r) = (completed i s).setDeadlines h r := by
  cases i with
  | rdcv g n => exact readCall_setDeadlines .cell g n h r s
  | rdaux g n => exact readCall_setDeadlines .aux g n h r s
  | rdcfg n => exact readCfgCall_setDeadlines n h r s
  | wrcfg n blocks => exact congrArg (State.respond .ok .absent) (burst_setDeadlines n blocks h r s)
  | samplev n m => exact attempt_setDeadlines ⟨.cell, n, m⟩ h r (startSample .cell s)
  | sampleaux n m => exact attempt_setDeadlines ⟨.aux, n, m⟩ h r (startSample .aux s)
  | _ => rfl

theorem exec_setDeadlines {i : Instr} {s t : State} (hexec : exec i s = .next t) (h r : Option Nat) :
    exec i (s.setDeadlines h r) = .next (t.setDeadlines h r) := by
  obtain ⟨hm, he⟩ | ⟨hm, he⟩ := exec_cases i s <;> (rw [he] at hexec; cases hexec)
  · exact exec_of_malformed hm
  · exact (exec_of_not_malformed (s := s.setDeadlines h r) hm).trans (congrArg _ (completed_setDeadlines i h r s))

theorem accept_setDeadlines (h r : Option Nat) (s : State) :
    accept (s.setDeadlines h r) = (accept s).setDeadlines h r := by
  unfold accept
  rw [State.setDeadlines_host]
  split <;> rfl

/-- And an instruction leaves the deadlines as they are: that moments pass is `settle`'s part. -/
theorem exec_deadlines {i : Instr} {s t : State} (h : exec i s = .next t) :
    t.bus.hangIn = s.bus.hangIn ∧ t.bus.resetIn = s.bus.resetIn := by
  have hsame := exec_setDeadlines h s.bus.hangIn s.bus.resetIn
  rw [setDeadlines_self, h] at hsame
  have ht : t = t.setDeadlines s.bus.hangIn s.bus.resetIn := Host.Outcome.next.inj hsame
  rw [ht]
  exact ⟨rfl, rfl⟩

theorem accept_of_encoder {s : State} {c : WireCmd} (h : s.host.encSel = some c) :
    accept s = { s with host.encSel := none } := by
  simp only [accept, h, State.setInputs]

/-- Settles O49. -/
theorem stepRunsTheDecodedInstruction : Obligations.StepRunsTheDecodedInstruction := by
  intro s p bytes i hreset hactive hbytes hdecode s'
  have hfetch : fetch s = some (.ok i) := by simp [fetch, hbytes, hdecode]
  have hs' : s' = accept s := by
    unfold fetchBytes at hbytes
    split at hbytes
    next c hsel => cases hbytes; exact (accept_of_encoder hsel).symm
    next hsel =>
      split at hbytes
      next msg more hreq =>
        cases hbytes
        rw [accept_of_request hsel hreq]
        simp [s', hreq]
      next => cases hbytes
  have hstep := step_of_fetched hreset hactive hfetch
  rw [hs']
  refine ⟨hstep, fun hs => ?_⟩
  obtain ⟨t, hexec⟩ := exec_total i (accept s)
  obtain ⟨hhang, hcoming⟩ := exec_deadlines hexec
  rw [accept_bus] at hhang hcoming
  rw [hstep, hexec]
  exact settle_reliable _ t (by rw [Reliable, accept_bus]; exact hs) ⟨hhang.trans hs.1, hcoming.trans hs.2⟩


/-! ### The events of an instruction -/

/-- The events an instruction adds to the trace when it is legal: whole transactions, in order. -/
def instrEvents (i : Instr) (s : State) : List BusEvent :=
  match i with
  | .rdcv g n => readTrace s n (selectedCommands .cell g)
  | .rdaux g n => readTrace s n (selectedCommands .aux g)
  | .wrcfg n blocks => transaction (wakeKind s.par .wrcfg)
      (frame s.par.table (opcode s.par .wrcfg) ++ burstBlocks s.par.table blocks n n) []
  | .rdcfg n => readTrace s n [.rdcfg]
  | .samplev n _ => commandTrace s .adcv ++ readTrace s n (readCommands .cell)
  | .sampleaux n _ => commandTrace s .adax ++ readTrace s n (readCommands .aux)
  | .adcv => commandTrace s .adcv
  | .adax => commandTrace s .adax
  | .clrcell => commandTrace s .clrcell
  | .clraux => commandTrace s .clraux
  | _ => []

theorem sendCommand_trace (c : WireCmd) (s : State) :
    (sendCommand c s).bus.trace = s.bus.trace ++ commandTrace s c := by rw [sendCommand_eq]

theorem completed_trace {i : Instr} {s : State} (h : ¬ malformed i s) :
    (completed i s).bus.trace = s.bus.trace ++ instrEvents i s := by
  cases i with
  | rdcv g n =>
    obtain ⟨hg, -⟩ := not_malformed_read (b := .cell) h
    rw [completed, readCall_bus .cell hg]
    rfl
  | rdaux g n =>
    obtain ⟨hg, -⟩ := not_malformed_read (b := .aux) h
    rw [completed, readCall_bus .aux hg]
    rfl
  | wrcfg n blocks =>
    rw [completed, State.respond_bus, transact_loadBurst (not_malformed_count h).2]
    rfl
  | rdcfg n => rw [completed, readCfgCall_bus]; rfl
  | samplev n m => rw [completed, firstAttempt_bus]; rfl
  | sampleaux n m => rw [completed, firstAttempt_bus]; rfl
  | adcv => exact sendCommand_trace .adcv s
  | adax => exact sendCommand_trace .adax s
  | clrcell => exact sendCommand_trace .clrcell s
  | clraux => exact sendCommand_trace .clraux s
  | _ => exact (List.append_nil _).symm

/-! ### How many moments they take -/

theorem totalOf_readTrace (s : State) (n : Nat) (cs : List WireCmd) :
    totalOf BusEvent.moments (readTrace s n cs) = cs.length * (4 + (4 + 8 * n)) ∧
    totalOf BusEvent.waits (readTrace s n cs) = cs.length * (2 + (4 + 8 * n)) := by
  induction cs using List.reverseRecOn with
  | nil => exact ⟨by simp [readTrace], by simp [readTrace]⟩
  | append_singleton cs c ih =>
    obtain ⟨hmoments, hwaits⟩ := ih
    obtain ⟨hm, hw⟩ := totalOf_transaction (wakeKind s.par c) (frame s.par.table (opcode s.par c))
      ((List.range (8 * n)).map fun i => s.bus.byteAt (8 * n * cs.length + i))
    rw [readTrace_concat, totalOf_append, totalOf_append, hmoments, hwaits, readTransaction, hm, hw]
    simp only [frame_length, List.length_map, List.length_range, List.length_append, List.length_singleton,
      Nat.add_mul, Nat.one_mul]
    omega

theorem totalOf_commandTrace (s : State) (c : WireCmd) :
    totalOf BusEvent.moments (commandTrace s c) = 8 ∧ totalOf BusEvent.waits (commandTrace s c) = 6 := by
  obtain ⟨hm, hw⟩ := totalOf_transaction (wakeKind s.par c) (frame s.par.table (commandWord c s)) []
  rw [commandTrace, hm, hw, frame_length]
  exact ⟨rfl, rfl⟩

theorem totalOf_read {b : Bank} {g : Nat} (hg : g ≤ b.groups) (n : Nat) (s : State) :
    totalOf BusEvent.moments (readTrace s n (selectedCommands b g)) = busMoments (readInstr b g n) ∧
    totalOf BusEvent.waits (readTrace s n (selectedCommands b g)) = waitMoments (readInstr b g n) := by
  obtain ⟨hm, hw⟩ := totalOf_readTrace s n (selectedCommands b g)
  rw [hm, hw, selectedCommands_length b hg]
  cases b <;> simp only [busMoments, waitMoments, readInstr, transactions, exchanged, Bank.groups] <;> split <;> omega

theorem totalOf_sample (b : Bank) (n : Nat) (m : MaxRetry) (s : State) :
    totalOf BusEvent.moments (commandTrace s (startCommand b) ++ readTrace s n (readCommands b)) =
      busMoments (sampleInstr b n m) ∧
    totalOf BusEvent.waits (commandTrace s (startCommand b) ++ readTrace s n (readCommands b)) =
      waitMoments (sampleInstr b n m) := by
  obtain ⟨hm, hw⟩ := totalOf_readTrace s n (readCommands b)
  obtain ⟨hm', hw'⟩ := totalOf_commandTrace s (startCommand b)
  rw [totalOf_append, totalOf_append, hm, hw, hm', hw', readCommands_length]
  cases b <;> simp only [busMoments, waitMoments, sampleInstr, transactions, exchanged, Bank.groups] <;> omega

/-- The moments of a legal instruction's events are those its operands fix (log 11, log 12). -/
theorem totalOf_instrEvents {i : Instr} {s : State} (h : ¬ malformed i s) :
    totalOf BusEvent.moments (instrEvents i s) = busMoments i ∧
    totalOf BusEvent.waits (instrEvents i s) = waitMoments i := by
  cases i with
  | rdcv g n => exact totalOf_read (b := .cell) (not_malformed_read (b := .cell) h).1 n s
  | rdaux g n => exact totalOf_read (b := .aux) (not_malformed_read (b := .aux) h).1 n s
  | samplev n m => exact totalOf_sample .cell n m s
  | sampleaux n m => exact totalOf_sample .aux n m s
  | wrcfg n blocks =>
    obtain ⟨hm, hw⟩ := totalOf_transaction (wakeKind s.par .wrcfg)
      (frame s.par.table (opcode s.par .wrcfg) ++ burstBlocks s.par.table blocks n n) []
    rw [instrEvents, hm, hw]
    simp only [List.length_append, frame_length, burstBlocks_length, List.length_nil, busMoments, waitMoments,
      transactions, exchanged]
    omega
  | rdcfg n =>
    obtain ⟨hm, hw⟩ := totalOf_readTrace s n [.rdcfg]
    rw [instrEvents, hm, hw]
    simp only [busMoments, waitMoments, transactions, exchanged, List.length_singleton]
    omega
  | adcv | adax | clrcell | clraux => exact totalOf_commandTrace s _
  | _ => exact ⟨rfl, rfl⟩

/-! ### A cut of some events -/

/-- A measure that gives an event all its moments, or none. -/
def WholeOrNone (w : BusEvent → Nat) : Prop := ∀ e, w e = 0 ∨ w e = e.moments

theorem wholeOrNone_moments : WholeOrNone BusEvent.moments := fun _ => .inr rfl

theorem wholeOrNone_waits : WholeOrNone BusEvent.waits
  | .wake _ => .inr rfl
  | .csAssert => .inl rfl
  | .xfer _ _ => .inr rfl
  | .csDeassert => .inl rfl

/-- The record of a run that is cut `k` moments into the events of a step says so. -/
theorem isCutAt_endedRun {w : BusEvent → Nat} (hw : WholeOrNone w) {s t : State} {evs : List BusEvent} {k : Nat}
    (htrace : t.bus.trace = s.bus.trace ++ evs) (hk : k ≤ totalOf w evs) :
    IsCutAt w k s t (s.endedRun (cutAt w k evs)) := by
  refine ⟨rfl, List.prefix_append _ _, ?_, ?_⟩ <;>
    simp only [State.endedRun, List.drop_left, htrace]
  · obtain ⟨hle, hcut⟩ | ⟨-, e, rest, m, -, htotal, hm, hsent, hreceived⟩ := cutAt_cases w k evs
    · rw [hcut]
      exact Nat.le_antisymm hle hk
    · have hwhole : m < e.moments := by obtain h | h := hw e <;> omega
      have hlength := cutAfter_length e m hwhole
      rw [hsent, hreceived]
      omega
  · obtain ⟨-, hcut⟩ | ⟨-, e, rest, m, hevs, -, -, hsent, hreceived⟩ := cutAt_cases w k evs
    · rw [hcut]
      exact .inl ⟨rfl, rfl, rfl⟩
    · exact .inr ⟨e, rest, m, by rw [List.append_assoc, ← hevs], hsent.symm, hreceived.symm⟩

theorem cutAt_done_prefix (w : BusEvent → Nat) (k : Nat) (evs : List BusEvent) : (cutAt w k evs).done <+: evs := by
  obtain ⟨-, hcut⟩ | ⟨-, e, rest, -, hevs, -⟩ := cutAt_cases w k evs
  · rw [hcut]
  · exact ⟨e :: rest, hevs.symm⟩

/-- An adapter that stops does so before the operation's own end. -/
theorem elapsed_cutAt_le {w : BusEvent → Nat} (hw : WholeOrNone w) (k : Nat) (evs : List BusEvent) :
    (cutAt w k evs).elapsed ≤ totalOf BusEvent.moments evs := by
  obtain ⟨-, hcut⟩ | ⟨-, e, rest, m, hevs, -, hm, hsent, hreceived⟩ := cutAt_cases w k evs
  · rw [hcut, Cut.elapsed]
    rfl
  · have hwhole : m < e.moments := by obtain h | h := hw e <;> omega
    have hlength := cutAfter_length e m hwhole
    have htotal := congrArg (totalOf BusEvent.moments) hevs
    rw [totalOf_append, totalOf_cons] at htotal
    rw [Cut.elapsed, hsent, hreceived]
    omega

theorem resetCut_done_prefix (hangIn : Option Nat) (k : Nat) (evs : List BusEvent) :
    (resetCut hangIn k evs).done <+: evs := by
  unfold resetCut
  split
  · exact cutAt_done_prefix _ _ _
  · split <;> exact cutAt_done_prefix _ _ _

/-- A reset that comes later than the whole operation would have taken finds it where the adapter stopped. -/
theorem resetCut_of_late {h k : Nat} {evs : List BusEvent} (hk : totalOf BusEvent.moments evs + 2 ≤ k) :
    resetCut (some h) k evs = cutAt BusEvent.waits h evs := by
  have helapsed := elapsed_cutAt_le wholeOrNone_waits h evs
  exact if_neg (by omega)

/-! ### A step that runs an operation -/

/-- The step of `s` runs an operation that leads to `t` and adds `evs` to the trace, whatever the deadlines; `s'` is
`s` with the operation taken off its port. -/
structure Runs (s s' t : State) (evs : List BusEvent) : Prop where
  step : ∀ h r, r ≠ some 0 →
    step (s.setDeadlines h r) = settle (s'.setDeadlines h r) (t.setDeadlines h r)
  trace : t.bus.trace = s.bus.trace ++ evs
  bus : s'.bus = s.bus
  responses : s'.host.responses = s.host.responses
  past : s'.past = s.past
  par : s'.par = s.par

theorem runs_retry {a : Sample} {s : State} (hactive : s.host.active = some a) :
    Runs s s (attempt a s) (readTrace s a.n (readCommands a.bank)) where
  step h r hr := by
    rw [← attempt_setDeadlines]
    exact step_of_sampling (s := s.setDeadlines h r) hr hactive
  trace := by rw [attempt_bus]; rfl
  bus := rfl
  responses := rfl
  past := rfl
  par := rfl

theorem runs_fetched {i : Instr} {s t : State} {evs : List BusEvent} (hactive : s.host.active = none)
    (hfetch : fetch s = some (.ok i)) (hexec : exec i (accept s) = .next t)
    (htrace : t.bus.trace = s.bus.trace ++ evs) : Runs s (accept s) t evs where
  step h r hr := by
    rw [step_of_fetched (s := s.setDeadlines h r) hr hactive hfetch, accept_setDeadlines,
      exec_setDeadlines hexec h r]
    rfl
  trace := htrace
  bus := accept_bus s
  responses := accept_responses s
  past := accept_past s
  par := accept_par s

theorem runs_legal {i : Instr} {s : State} (hactive : s.host.active = none) (hfetch : fetch s = some (.ok i))
    (hlegal : ¬ malformed i s) :
    Runs s (accept s) (completed i (accept s)) (instrEvents i (accept s)) := by
  have hm : ¬ malformed i (accept s) := (malformed_accept i s).not.mpr hlegal
  refine runs_fetched hactive hfetch (exec_of_not_malformed hm) ?_
  rw [completed_trace hm, accept_bus]

theorem runs_rejected {i : Instr} {s : State} (hactive : s.host.active = none) (hfetch : fetch s = some (.ok i))
    (hm : malformed i s) : Runs s (accept s) (raiseConfigError (accept s)) [] := by
  refine runs_fetched hactive hfetch (exec_of_malformed ((malformed_accept i s).mpr hm)) ?_
  rw [raiseConfigError_bus, accept_bus, List.append_nil]

theorem setDeadlines_setDeadlines (h r h' r' : Option Nat) (s : State) :
    (s.setDeadlines h r).setDeadlines h' r' = s.setDeadlines h' r' := rfl

section
variable {s s' t : State} {evs : List BusEvent}

theorem Runs.newEvents (hruns : Runs s s' t evs) (h r : Option Nat) :
    Machine.newEvents (s'.setDeadlines h r) (t.setDeadlines h r) = evs :=
  newEvents_append _ _ _ (by
    rw [State.setDeadlines_bus_trace, State.setDeadlines_bus_trace, hruns.bus]
    exact hruns.trace)

theorem Runs.endedRun (hruns : Runs s s' t evs) (h r : Option Nat) (c : Cut) :
    (s'.setDeadlines h r).endedRun c = s.endedRun c := by
  simp only [State.endedRun, State.setDeadlines_bus_trace, State.setDeadlines_host, hruns.bus, hruns.responses]

/-- Nothing cuts the run: no reset falls before its outcome, and the adapter does not stop in it. -/
theorem Runs.step_uncut (hruns : Runs s s' t evs) {h r : Option Nat} (hhang : hangs h evs = false)
    (hreset : ∀ k, r = some k → totalOf BusEvent.moments evs + 2 ≤ k) :
    Machine.step (s.setDeadlines h r) = .next (t.setDeadlines
      (h.map fun k => k - totalOf BusEvent.waits evs) (r.map fun k => k - (totalOf BusEvent.moments evs + 2))) := by
  rw [hruns.step h r (by rintro rfl; exact absurd (hreset 0 rfl) (by omega)), settle, hruns.newEvents,
    State.setDeadlines_bus_resetIn, State.setDeadlines_bus_hangIn]
  cases r with
  | none => simp [hhang, setDeadlines_setDeadlines]
  | some k =>
    have hk : ¬ k < totalOf BusEvent.moments evs + 2 := by have := hreset k rfl; omega
    simp [hhang, hk, setDeadlines_setDeadlines]

/-- The adapter stops in the run, and no reset is coming. -/
theorem Runs.step_hang (hruns : Runs s s' t evs) {k : Nat} (hk : k < totalOf BusEvent.waits evs) :
    Machine.step (s.setDeadlines (some k) none) =
      .fault (.transportHang (s.endedRun (cutAt BusEvent.waits k evs))) := by
  rw [hruns.step _ _ (by simp), settle, hruns.newEvents, State.setDeadlines_bus_resetIn,
    State.setDeadlines_bus_hangIn]
  simp [hangs, hk, hruns.endedRun]

/-- A reset falls in the run, or ends its hang. -/
theorem Runs.step_reset (hruns : Runs s s' t evs) {h : Option Nat} {k : Nat} (hpos : 0 < k)
    (hk : k < totalOf BusEvent.moments evs + 2 ∨ hangs h evs = true) :
    ∃ u, Machine.step (s.setDeadlines h (some k)) = .next u ∧ afterReset u ∧ u.par = s.par ∧
      u.past = s.past ++ [s.endedRun (resetCut h k evs)] := by
  obtain ⟨hafter, hpar, hpast⟩ := hostReset_afterReset (resetCut h k evs) (s'.setDeadlines h (some k))
  refine ⟨_, ?_, hafter, hpar.trans hruns.par, ?_⟩
  · rw [hruns.step _ _ (by simp; omega), settle, hruns.newEvents, State.setDeadlines_bus_resetIn,
      State.setDeadlines_bus_hangIn]
    exact if_pos hk
  · rw [hpast, hruns.endedRun]
    exact congrArg (· ++ _) hruns.past

/-! ### The deadlines of the obligations -/

theorem setDeadlines_eq_self {h r : Option Nat} (hhang : s.bus.hangIn = h) (hreset : s.bus.resetIn = r) :
    s.setDeadlines h r = s := by
  rw [← hhang, ← hreset, setDeadlines_self]

/-- Without the deadlines nothing cuts the run. -/
theorem Runs.step_free (hruns : Runs s s' t evs) :
    Machine.step (s.setDeadlines none none) = .next (t.setDeadlines none none) :=
  hruns.step_uncut rfl (by simp)

/-- At an adapter that stops, with no reset coming. -/
theorem Runs.hang (hruns : Runs s s' t evs) {k : Nat} (hhang : s.bus.hangIn = some k)
    (hreset : s.bus.resetIn = none) :
    ∃ u, Machine.step { s with bus.hangIn := none } = .next u ∧
      if k < totalOf BusEvent.waits evs then
        ∃ run, Machine.step s = .fault (.transportHang run) ∧ IsCutAt BusEvent.waits k s u run
      else Machine.step s = .next { u with bus.hangIn := some (k - totalOf BusEvent.waits evs) } := by
  have hfree : { s with bus.hangIn := none } = s.setDeadlines none none := by rw [State.setDeadlines, ← hreset]
  refine ⟨_, hfree ▸ hruns.step_free, ?_⟩
  have hs := setDeadlines_eq_self hhang hreset
  split
  next hk =>
    have hstep := hruns.step_hang hk
    rw [hs] at hstep
    exact ⟨_, hstep, isCutAt_endedRun wholeOrNone_waits hruns.trace hk.le⟩
  next hk =>
    have hstep := hruns.step_uncut (h := some k) (r := none) (by simpa [hangs] using hk) (by simp)
    rw [hs] at hstep
    exact hstep

/-- With a reset that falls before the outcome, at an adapter that returns. -/
theorem Runs.reset_inside (hruns : Runs s s' t evs) {k : Nat} (hhang : s.bus.hangIn = none)
    (hreset : s.bus.resetIn = some k) (hpos : 0 < k) (hk : k < totalOf BusEvent.moments evs + 2) :
    ∃ u v run, Machine.step { s with bus.resetIn := none } = .next v ∧ Machine.step s = .next u ∧ afterReset u ∧
      u.par = s.par ∧ u.past = s.past ++ [run] ∧ IsCutAt BusEvent.moments (k - 1) s v run := by
  have hfree : { s with bus.resetIn := none } = s.setDeadlines none none := by rw [State.setDeadlines, ← hhang]
  obtain ⟨u, hstep, hafter, hpar, hpast⟩ := hruns.step_reset (h := none) hpos (.inl hk)
  rw [setDeadlines_eq_self hhang hreset] at hstep
  exact ⟨u, t.setDeadlines none none, _, hfree ▸ hruns.step_free, hstep, hafter, hpar, hpast,
    isCutAt_endedRun wholeOrNone_moments hruns.trace (by omega)⟩

/-- With a reset that falls after the outcome. -/
theorem Runs.reset_after (hruns : Runs s s' t evs) {k : Nat} (hhang : s.bus.hangIn = none)
    (hreset : s.bus.resetIn = some k) (hk : totalOf BusEvent.moments evs + 2 ≤ k) :
    ∃ u, Machine.step { s with bus.resetIn := none } = .next u ∧
      Machine.step s = .next { u with bus.resetIn := some (k - (totalOf BusEvent.moments evs + 2)) } := by
  have hfree : { s with bus.resetIn := none } = s.setDeadlines none none := by rw [State.setDeadlines, ← hhang]
  have hstep := hruns.step_uncut (h := none) (r := some k) rfl (by rintro _ ⟨rfl⟩; exact hk)
  rw [setDeadlines_eq_self hhang hreset] at hstep
  exact ⟨_, hfree ▸ hruns.step_free, hstep⟩

/-- With an adapter that stops in the run and a reset that ends the hang. -/
theorem Runs.reset_hang (hruns : Runs s s' t evs) {h k : Nat} (hhang : s.bus.hangIn = some h)
    (hh : h < totalOf BusEvent.waits evs) (hreset : s.bus.resetIn = some k) (hpos : 0 < k) :
    ∃ u v run, Machine.step { s with bus.hangIn := none, bus.resetIn := none } = .next v ∧
      Machine.step s = .next u ∧ afterReset u ∧ u.par = s.par ∧ u.past = s.past ++ [run] ∧
      run.responses = s.host.responses ∧ s.bus.trace <+: run.trace ∧ run.trace <+: v.bus.trace ∧
      (totalOf BusEvent.moments evs + 2 ≤ k → IsCutAt BusEvent.waits h s v run) := by
  obtain ⟨u, hstep, hafter, hpar, hpast⟩ := hruns.step_reset (h := some h) hpos (.inr (by simpa [hangs] using hh))
  rw [setDeadlines_eq_self hhang hreset] at hstep
  refine ⟨u, t.setDeadlines none none, _, hruns.step_free, hstep, hafter, hpar, hpast, rfl,
    List.prefix_append _ _, ?_, fun hk => ?_⟩
  · rw [State.setDeadlines_bus_trace, hruns.trace]
    exact (List.prefix_append_right_inj _).mpr (resetCut_done_prefix _ _ _)
  · rw [resetCut_of_late hk]
    exact isCutAt_endedRun wholeOrNone_waits hruns.trace hh.le

end

/-! ### The events of a step, in moments -/

theorem totalOf_legal {i : Instr} {s : State} (hlegal : ¬ malformed i s) :
    totalOf BusEvent.moments (instrEvents i (accept s)) = busMoments i ∧
    totalOf BusEvent.waits (instrEvents i (accept s)) = waitMoments i :=
  totalOf_instrEvents ((malformed_accept i s).not.mpr hlegal)

theorem totalOf_retry (a : Sample) (s : State) :
    totalOf BusEvent.moments (readTrace s a.n (readCommands a.bank)) = attemptMoments a ∧
    totalOf BusEvent.waits (readTrace s a.n (readCommands a.bank)) = attemptWaits a := by
  obtain ⟨hm, hw⟩ := totalOf_readTrace s a.n (readCommands a.bank)
  rw [hm, hw, readCommands_length]
  exact ⟨rfl, rfl⟩

/-- Settles O33. -/
theorem hungAdapterStopsBusOperations : Obligations.HungAdapterStopsBusOperations := by
  refine ⟨fun i s k hactive hfetch hlegal hhang hreset => ?_, fun a s k hactive _ _ hhang hreset => ?_⟩
  · rw [← (totalOf_legal hlegal).2]
    exact (runs_legal hactive hfetch hlegal).hang hhang hreset
  · rw [← (totalOf_retry a s).2]
    exact (runs_retry hactive).hang hhang hreset

/-- Every fetched instruction runs, the malformed ones too. -/
theorem runs_any {i : Instr} {s : State} (hactive : s.host.active = none) (hfetch : fetch s = some (.ok i)) :
    ∃ t evs, Runs s (accept s) t evs := by
  by_cases hm : malformed i s
  · exact ⟨_, _, runs_rejected hactive hfetch hm⟩
  · exact ⟨_, _, runs_legal hactive hfetch hm⟩

/-- A rejected request has no events. -/
theorem runs_undecodable {e : DecodeError} {s : State} (hactive : s.host.active = none)
    (hfetch : fetch s = some (.error e)) : Runs s (accept s) (raiseConfigError (accept s)) [] where
  step h r hr := by
    rw [step_of_error (s := s.setDeadlines h r) hr hactive hfetch, accept_setDeadlines]
    rfl
  trace := by rw [raiseConfigError_bus, accept_bus, List.append_nil]
  bus := accept_bus s
  responses := accept_responses s
  past := accept_past s
  par := accept_par s

theorem resetCut_nil (hangIn : Option Nat) (k : Nat) : resetCut hangIn k [] = Cut.none := by
  unfold resetCut
  split
  · rfl
  · split <;> rfl

/-- Settles O37: an instruction with a reset one moment on by `runs_any`, a legal one by its moments. -/
theorem resetInsideAnOperation : Obligations.ResetInsideAnOperation := by
  refine ⟨fun i s k hactive hfetch hhang hreset hpos hk => ?_, fun e s hactive hfetch hreset => ?_,
    fun a s k hactive _ _ hhang hreset hpos hk => ?_⟩
  · obtain rfl | ⟨hlegal, hk⟩ := hk
    · obtain ⟨t, evs, hruns⟩ := runs_any hactive hfetch
      exact hruns.reset_inside hhang hreset hpos (by omega)
    · rw [← (totalOf_legal hlegal).1] at hk
      exact (runs_legal hactive hfetch hlegal).reset_inside hhang hreset hpos hk
  · obtain ⟨u, hstep, hafter, hpar, hpast⟩ :=
      (runs_undecodable hactive hfetch).step_reset (h := s.bus.hangIn) (k := 1) one_pos (.inl (by simp))
    rw [setDeadlines_eq_self rfl hreset] at hstep
    rw [resetCut_nil, State.endedRun, Cut.none, List.append_nil] at hpast
    exact ⟨u, hstep, hafter, hpar, hpast⟩
  · rw [← (totalOf_retry a s).1] at hk
    exact (runs_retry hactive).reset_inside hhang hreset hpos hk

/-- Settles O52. -/
theorem resetAfterAnOperation : Obligations.ResetAfterAnOperation := by
  refine ⟨fun i s k hactive hfetch hlegal hhang hreset hk => ?_, fun a s k hactive _ _ hhang hreset hk => ?_⟩
  · rw [← (totalOf_legal hlegal).1] at hk ⊢
    exact (runs_legal hactive hfetch hlegal).reset_after hhang hreset hk
  · rw [← (totalOf_retry a s).1] at hk ⊢
    exact (runs_retry hactive).reset_after hhang hreset hk

/-- Settles O53. -/
theorem resetEndsAHang : Obligations.ResetEndsAHang := by
  intro i s h k hactive hfetch hlegal hhang hh hreset hpos
  rw [← (totalOf_legal hlegal).2] at hh
  rw [← (totalOf_legal hlegal).1]
  exact (runs_legal hactive hfetch hlegal).reset_hang hhang hh hreset hpos

end Sys2Proof.Machine
end

section
/-! Proofs about what goes over the bus (30_encoding.md R60 to R65, R77, 20_memory.md R51) and the invariant of the
machine: the words that may be sent, the exchanges, the trace they make, and that every step keeps the invariant. -/

namespace Sys2Proof.Machine

/-! ### The words that may be sent -/

theorem mem_modes_of_legalMode {p : Params} {md : BitVec 2} (h : legalMode p md.toNat = true) : md ∈ modes p := by
  have hmode : md.toNat = p.modeFast.toNat ∨ md.toNat = p.modeNormal.toNat ∨ md.toNat = p.modeFiltered.toNat :=
    of_decide_eq_true h
  simpa [modes, BitVec.toNat_inj] using hmode

theorem sendable_adcv {p : Params} {md : BitVec 2} (h : md ∈ modes p) (dcp : BitVec 1) (ch : BitVec 3) :
    sendable p (opcode p .adcv ||| (md.setWidth 16 <<< 7) ||| (dcp.setWidth 16 <<< 4) ||| ch.setWidth 16) = true := by
  have hword : (List.range 2).any (fun d => (List.range 8).any fun c =>
      opcode p .adcv ||| (md.setWidth 16 <<< 7) ||| (dcp.setWidth 16 <<< 4) ||| ch.setWidth 16 ==
        opcode p .adcv ||| (md.setWidth 16 <<< 7) ||| (BitVec.ofNat 16 d <<< 4) ||| BitVec.ofNat 16 c) = true := by
    refine List.any_eq_true.mpr ⟨dcp.toNat, List.mem_range.mpr dcp.isLt,
      List.any_eq_true.mpr ⟨ch.toNat, List.mem_range.mpr ch.isLt, ?_⟩⟩
    rw [BitVec.ofNat_toNat, BitVec.ofNat_toNat, beq_self_eq_true]
  rw [sendable, Bool.or_eq_true]
  exact .inl (List.any_eq_true.mpr ⟨md, h, Bool.or_eq_true_iff.mpr (.inl hword)⟩)

theorem sendable_adax {p : Params} {md : BitVec 2} (h : md ∈ modes p) (chg : BitVec 3) :
    sendable p (opcode p .adax ||| (md.setWidth 16 <<< 7) ||| chg.setWidth 16) = true := by
  have hword : (List.range 8).any (fun c => opcode p .adax ||| (md.setWidth 16 <<< 7) ||| chg.setWidth 16 ==
      opcode p .adax ||| (md.setWidth 16 <<< 7) ||| BitVec.ofNat 16 c) = true := by
    refine List.any_eq_true.mpr ⟨chg.toNat, List.mem_range.mpr chg.isLt, ?_⟩
    rw [BitVec.ofNat_toNat, beq_self_eq_true]
  rw [sendable, Bool.or_eq_true]
  exact .inl (List.any_eq_true.mpr ⟨md, h, Bool.or_eq_true_iff.mpr (.inr hword)⟩)

/-- The two commands whose words carry sticky fields (30_encoding.md R67, R68). -/
def isConversion : WireCmd → Bool
  | .adcv | .adax => true
  | _ => false

theorem sendable_opcode {c : WireCmd} (hc : isConversion c = false) (p : Params) : sendable p (opcode p c) = true := by
  rw [sendable, Bool.or_eq_true]
  refine .inr (List.any_eq_true.mpr ⟨c, ?_, beq_self_eq_true _⟩)
  revert hc
  cases c <;> decide

/-- A conversion word may be sent when the mode it carries is one; every other word always. -/
theorem sendable_commandWord {c : WireCmd} {s : State}
    (h : isConversion c = true → legalMode s.par s.regs.md.toNat = true) :
    sendable s.par (commandWord c s) = true := by
  cases c with
  | adcv => exact sendable_adcv (mem_modes_of_legalMode (h rfl)) _ _
  | adax => exact sendable_adax (mem_modes_of_legalMode (h rfl)) _
  | _ => exact sendable_opcode rfl s.par

/-! ### Good exchanges -/

/-- An exchange that begins with the frame of a sendable word is good when its lengths and blocks are. -/
theorem exchangeOk_of_frame {p : Params} {w : Code} (hw : sendable p w = true) (rest rx : List Byte)
    (h : ((decide ((frame p.table w ++ rest).length = 4) &&
        (List.range 17).any fun n => decide (rx.length = 8 * n)) ||
      (decide (rx = []) && (List.range 16).any fun n =>
        decide ((frame p.table w ++ rest).length = 4 + 8 * (n + 1)) &&
        (List.range (n + 1)).all fun i =>
          !mismatch p.table (((frame p.table w ++ rest).drop (4 + 8 * i)).take 8))) = true) :
    exchangeOk p (frame p.table w ++ rest) rx = true := by
  have hword : wordOfBytes ((frame p.table w ++ rest).getD 0 0) ((frame p.table w ++ rest).getD 1 0) = w :=
    wordOfBytes_high_low w
  have hpec : pecverify p.table ((frame p.table w ++ rest).take 2)
      (wordOfBytes ((frame p.table w ++ rest).getD 2 0) ((frame p.table w ++ rest).getD 3 0)) = true :=
    pecverify_pec15 p.table [highByte w, lowByte w]
  rw [exchangeOk, hword, hw, hpec, h]
  rfl

/-- A frame alone, with an answer of at most 16 blocks. -/
theorem exchangeOk_frame {p : Params} {w : Code} (hw : sendable p w = true) {n : Nat} (hn : n ≤ 16)
    {rx : List Byte} (hrx : rx.length = 8 * n) : exchangeOk p (frame p.table w) rx = true := by
  rw [← List.append_nil (frame p.table w)]
  refine exchangeOk_of_frame hw [] rx (Bool.or_eq_true_iff.mpr (.inl ?_))
  refine Bool.and_eq_true_iff.mpr ⟨by simp, List.any_eq_true.mpr ⟨n, List.mem_range.mpr (by omega), ?_⟩⟩
  exact decide_eq_true hrx

/-- Block `i` of a burst is that of device `n - 1 - i`, with its PEC. -/
theorem burstBlocks_block (table : Vector (BitVec 16) 256) (blocks : List (Vector Byte 6)) (n : Nat) {k i : Nat}
    (hi : i < k) :
    ((burstBlocks table blocks n k).drop (8 * i)).take 8 = withPec table (cfgtxRead blocks (n - 1 - i)) := by
  induction k with
  | zero => omega
  | succ k ih =>
    have hlen := burstBlocks_length table blocks n k
    have hblock : (withPec table (cfgtxRead blocks (n - 1 - k))).length = 8 := by simp [cfgtxRead_length]
    rw [burstBlocks_succ]
    obtain hlt | rfl := Nat.lt_or_eq_of_le (Nat.le_of_lt_succ hi)
    · rw [List.drop_append_of_le_length (by omega), List.take_append_of_le_length (by simp; omega), ih hlt]
    · rw [List.drop_left' hlen, List.take_of_length_le hblock.le]

theorem frame_append_block (table : Vector (BitVec 16) 256) (w : Code) (blocks : List (Vector Byte 6)) {n i : Nat}
    (hi : i < n) :
    ((frame table w ++ burstBlocks table blocks n n).drop (4 + 8 * i)).take 8 =
      withPec table (cfgtxRead blocks (n - 1 - i)) := by
  rw [← List.drop_drop, List.drop_left' (frame_length table w), burstBlocks_block table blocks n hi]

/-- A write burst of 1 to 16 blocks. -/
theorem exchangeOk_burst {p : Params} {w : Code} (hw : sendable p w = true) {n : Nat} (h1 : 1 ≤ n) (hn : n ≤ 16)
    (blocks : List (Vector Byte 6)) :
    exchangeOk p (frame p.table w ++ burstBlocks p.table blocks n n) [] = true := by
  refine exchangeOk_of_frame hw _ [] (Bool.or_eq_true_iff.mpr (.inr ?_))
  refine Bool.and_eq_true_iff.mpr ⟨rfl, List.any_eq_true.mpr ⟨n - 1, List.mem_range.mpr (by omega), ?_⟩⟩
  rw [Nat.sub_add_cancel h1]
  refine Bool.and_eq_true_iff.mpr ⟨by simp [burstBlocks_length], List.all_eq_true.mpr fun i hi => ?_⟩
  rw [frame_append_block _ _ _ (List.mem_range.mp hi), mismatch_withPec _ (cfgtxRead_length _ _)]
  rfl

/-! ### Good traces -/

theorem traceOk_append {p : Params} {evs : List BusEvent} (h : traceOk p evs = true) (evs' : List BusEvent) :
    traceOk p (evs ++ evs') = traceOk p evs' := by
  fun_induction traceOk p evs with
  | case1 => rfl
  | case2 kind tx rx rest ih =>
    obtain ⟨hexchange, hrest⟩ := Bool.and_eq_true_iff.mp h
    simp only [List.cons_append, traceOk, hexchange, ih hrest, Bool.true_and]
  | case3 => cases h

theorem traceOk_transaction {p : Params} {tx rx : List Byte} (h : exchangeOk p tx rx = true) (kind : WakeKind) :
    traceOk p (transaction kind tx rx) = true := by
  simp only [transaction, traceOk, h, Bool.and_self]

theorem traceOk_commandTrace {c : WireCmd} {s : State}
    (h : isConversion c = true → legalMode s.par s.regs.md.toNat = true) :
    traceOk s.par (commandTrace s c) = true :=
  traceOk_transaction (exchangeOk_frame (sendable_commandWord h) (Nat.zero_le 16) rfl) _

theorem traceOk_readTrace {n : Nat} (hn : n ≤ 16) (s : State) {cs : List WireCmd}
    (hcs : ∀ c ∈ cs, isConversion c = false) : traceOk s.par (readTrace s n cs) = true := by
  induction cs using List.reverseRecOn with
  | nil => rfl
  | append_singleton cs c ih =>
    rw [readTrace_concat, traceOk_append (ih fun c' hc' => hcs c' (List.mem_append_left _ hc'))]
    exact traceOk_transaction (exchangeOk_frame (sendable_opcode (hcs c (by simp)) s.par) hn (by simp)) _

theorem isConversion_readCommands (b : Bank) : ∀ c ∈ readCommands b, isConversion c = false := by
  cases b <;> decide

theorem isConversion_selectedCommands (b : Bank) (g : Nat) : ∀ c ∈ selectedCommands b g, isConversion c = false := by
  intro c hc
  refine isConversion_readCommands b c ?_
  unfold selectedCommands at hc
  split at hc
  · exact hc
  · exact List.mem_of_mem_drop (List.mem_of_mem_take hc)

/-! ### The invariant, operation by operation -/

/-- Traffic of good exchanges, with the lengths in range, the configuration kept and the sample legal, keeps the
invariant. -/
theorem stateInv_of_traffic {s t : State} {evs : List BusEvent} {k : Nat} (hinv : StateInv s)
    (hevs : traceOk s.par evs = true) (hbus : t.bus = s.bus.afterTraffic evs k) (hpar : t.par = s.par)
    (htxlen : t.regs.txlen.toNat ≤ 132) (hrxlen : t.regs.rxlen.toNat ≤ 128)
    (hconfig : t.regs.config = s.regs.config) (hactive : activeOk t.regs t.host.active = true) : StateInv t := by
  obtain ⟨-, htrace, -, -, hmode, -⟩ := hinv
  obtain ⟨hmd, -, -, -, hcfg⟩ := (Regs.config_eq_iff s.regs t.regs).mp hconfig
  refine ⟨by rw [hbus]; rfl, ?_, htxlen, hrxlen, ?_, hactive⟩
  · rw [hbus, hpar, BusPort.afterTraffic_trace, traceOk_append htrace, hevs]
  · rw [hcfg, hmd, hpar]
    exact hmode

theorem toNat_blocks_le {n : Nat} (hn : n ≤ 16) : (BitVec.ofNat 8 (8 * n)).toNat ≤ 128 := by
  rw [BitVec.toNat_ofNat]
  omega

theorem activeOk_of_none {r : Regs} {active : Option Sample} (h : active = none) : activeOk r active = true := by
  rw [h]
  rfl

theorem sendCommand_bus (c : WireCmd) (s : State) :
    (sendCommand c s).bus = s.bus.afterTraffic (commandTrace s c) 0 := by
  rw [sendCommand_eq]
  simp [BusPort.afterTraffic]

theorem stateInv_sendCommand {c : WireCmd} {s : State} (hinv : StateInv s) (hactive : s.host.active = none)
    (h : isConversion c = true → legalMode s.par s.regs.md.toNat = true) : StateInv (sendCommand c s) := by
  refine stateInv_of_traffic hinv (traceOk_commandTrace h) (sendCommand_bus c s) ?_ ?_ ?_ (sendCommand_config c s)
    (activeOk_of_none ?_) <;> rw [sendCommand_eq]
  · show (4 : BitVec 8).toNat ≤ 132
    decide
  · exact Nat.zero_le _
  · exact hactive

theorem stateInv_readCall {b : Bank} {g n : Nat} (hg : g ≤ b.groups) (hn : n ≤ 16) {s : State} (hinv : StateInv s)
    (hactive : s.host.active = none) : StateInv (readCall b g n s) := by
  refine stateInv_of_traffic hinv (traceOk_readTrace hn s (isConversion_selectedCommands b g))
    (readCall_bus b hg n s) (readCall_past_par b g n s).2 ?_ ?_ (readCall_config b g n s)
    (activeOk_of_none (by rw [readCall_host, hactive])) <;> rw [readCall_regs]
  · show (4 : BitVec 8).toNat ≤ 132
    decide
  · exact toNat_blocks_le hn

theorem stateInv_readCfgCall {n : Nat} (hn : n ≤ 16) {s : State} (hinv : StateInv s)
    (hactive : s.host.active = none) : StateInv (readCfgCall n s) := by
  refine stateInv_of_traffic hinv (traceOk_readTrace hn s (cs := [.rdcfg]) (by decide)) (readCfgCall_bus n s)
    (readCfgCall_past_par n s).2 ?_ ?_ (readCfgCall_config n s)
    (activeOk_of_none (by rw [readCfgCall_host hn, hactive])) <;> rw [readCfgCall_regs]
  · show (4 : BitVec 8).toNat ≤ 132
    decide
  · exact toNat_blocks_le hn

theorem stateInv_burst {n : Nat} (h1 : 1 ≤ n) (hn : n ≤ 16) (blocks : List (Vector Byte 6)) {s : State}
    (hinv : StateInv s) (hactive : s.host.active = none) : StateInv (transact .wrcfg 0 (loadBurst n blocks s)) := by
  have hevs := traceOk_transaction (exchangeOk_burst (sendable_opcode (c := .wrcfg) rfl s.par) h1 hn blocks)
    (wakeKind s.par .wrcfg)
  refine stateInv_of_traffic (k := 0) hinv hevs ?_ ?_ ?_ ?_ (transact_loadBurst_config n blocks s)
    (activeOk_of_none ?_) <;> rw [transact_loadBurst hn]
  · rw [BitVec.toNat_ofNat]
    omega
  · exact Nat.zero_le _
  · exact hactive

/-- An attempt of a legal sample keeps the invariant: if the sample goes on, its bound holds by `attempt_cases`. -/
theorem stateInv_attempt {a : Sample} {s : State} (hinv : StateInv s) (hcount : legalCount a.n = true)
    (hcfg : s.regs.cfgValid = true) (horch : s.regs.orch = .read) : StateInv (attempt a s) := by
  have hn : a.n ≤ 16 := (of_decide_eq_true hcount : 1 ≤ a.n ∧ a.n ≤ maxDev).2
  have hregs := attempt_regs hn s
  have hcfg' : (attempt a s).regs.cfgValid = true := by rw [hregs]; exact hcfg
  refine stateInv_of_traffic hinv (traceOk_readTrace hn s (isConversion_readCommands a.bank)) (attempt_bus a s)
    (attempt_par a s) ?_ ?_ (attempt_config a s) ?_
  · rw [hregs]
    show (4 : BitVec 8).toNat ≤ 132
    decide
  · rw [hregs]
    exact toNat_blocks_le hn
  · obtain ⟨hhost, horch', hretries⟩ | ⟨p, hhost⟩ | hhost := attempt_cases a s
    · rw [hhost]
      simp only [activeOk, hcount, hcfg', horch', horch, decide_true, Bool.and_true, Bool.true_and]
      cases hm : a.maxRetry with
      | unbounded => rfl
      | count k => exact decide_eq_true (hretries k hm)
    · exact activeOk_of_none (by rw [hhost])
    · exact activeOk_of_none (by rw [hhost])

theorem stateInv_firstAttempt {n : Nat} {s : State} (hinv : StateInv s) (hactive : s.host.active = none)
    (h1 : 1 ≤ n) (hn : n ≤ 16) (hcfg : s.regs.cfgValid = true) (b : Bank) (m : MaxRetry) :
    StateInv (attempt ⟨b, n, m⟩ (startSample b s)) := by
  have hstart : StateInv (startSample b s) := by
    obtain ⟨hcs, htrace, htxlen, hrxlen, hmode, -⟩ := hinv
    have hentry : StateInv ((s.setOrch .start).setRetries 0) :=
      ⟨hcs, htrace, htxlen, hrxlen, hmode, activeOk_of_none hactive⟩
    obtain ⟨hcs, htrace, htxlen, hrxlen, hmode', -⟩ :=
      stateInv_sendCommand (c := startCommand b) hentry hactive fun _ => hmode hcfg
    exact ⟨hcs, htrace, htxlen, hrxlen, hmode', activeOk_of_none (by rw [startSample_host, hactive])⟩
  refine stateInv_attempt hstart (legalCount_eq_true h1 hn) ?_ (startSample_orch b s)
  rw [startSample_eq]
  exact hcfg

/-! ### The invariant, step by step -/

/-- A configuration that CONFIGURE accepts holds a mode: the two bits of MD hold every mode number. -/
theorem stateInv_configure {mode dcp ch chg : Nat} {s : State} (hinv : StateInv s) (hactive : s.host.active = none)
    (h : ¬ malformed (.configure mode dcp ch chg) s) : StateInv (completed (.configure mode dcp ch chg) s) := by
  obtain ⟨hmode, -⟩ := not_malformed_configure h
  have hmd : (BitVec.ofNat 2 mode).toNat = mode := by
    rw [BitVec.toNat_ofNat, Nat.mod_eq_of_lt]
    obtain rfl | rfl | rfl := hmode <;> exact BitVec.isLt _
  obtain ⟨hcs, htrace, htxlen, hrxlen, -, -⟩ := hinv
  refine ⟨hcs, htrace, htxlen, hrxlen, fun _ => ?_, activeOk_of_none hactive⟩
  show legalMode s.par (BitVec.ofNat 2 mode).toNat = true
  rw [hmd]
  exact decide_eq_true hmode

theorem stateInv_completed {i : Instr} {s : State} (hinv : StateInv s) (hactive : s.host.active = none)
    (h : ¬ malformed i s) : StateInv (completed i s) := by
  obtain ⟨-, -, -, -, hmode, -⟩ := id hinv
  cases i with
  | configure mode dcp ch chg => exact stateInv_configure hinv hactive h
  | rdcv g n =>
    obtain ⟨hg, -, hn⟩ := not_malformed_read (b := .cell) h
    exact stateInv_readCall (b := .cell) hg hn hinv hactive
  | rdaux g n =>
    obtain ⟨hg, -, hn⟩ := not_malformed_read (b := .aux) h
    exact stateInv_readCall (b := .aux) hg hn hinv hactive
  | wrcfg n blocks =>
    obtain ⟨h1, hn⟩ := not_malformed_count h
    exact stateInv_burst h1 hn blocks hinv hactive
  | rdcfg n => exact stateInv_readCfgCall (not_malformed_count h).2 hinv hactive
  | samplev n m =>
    obtain ⟨h1, hn, hcfg⟩ := not_malformed_sample (b := .cell) h
    exact stateInv_firstAttempt hinv hactive h1 hn hcfg .cell m
  | sampleaux n m =>
    obtain ⟨h1, hn, hcfg⟩ := not_malformed_sample (b := .aux) h
    exact stateInv_firstAttempt hinv hactive h1 hn hcfg .aux m
  | adcv => exact stateInv_sendCommand (c := .adcv) hinv hactive fun _ => hmode (Bool.not_eq_false _ ▸ h)
  | adax => exact stateInv_sendCommand (c := .adax) hinv hactive fun _ => hmode (Bool.not_eq_false _ ▸ h)
  | clrcell => exact stateInv_sendCommand (c := .clrcell) hinv hactive nofun
  | clraux => exact stateInv_sendCommand (c := .clraux) hinv hactive nofun
  | _ => exact hinv

theorem stateInv_accept {s : State} (hinv : StateInv s) : StateInv (accept s) := by
  rw [accept_eq]
  exact hinv

theorem stateInv_hostReset (c : Cut) (s : State) : StateInv (hostReset c s) := by
  obtain ⟨⟨-, -, hcs, htrace, -, -⟩, -, -⟩ := hostReset_afterReset c s
  exact ⟨hcs, by rw [htrace]; rfl, Nat.zero_le _, Nat.zero_le _, nofun, rfl⟩

/-- Settles O44. -/
theorem invariantAtReset : Obligations.InvariantAtReset :=
  ⟨rfl, rfl, Nat.zero_le _, Nat.zero_le _, nofun, rfl⟩

/-- Settles O45: a reset begins anew, an idle moment and a rejection touch nothing of it, an attempt keeps it by
`stateInv_attempt`, an instruction by `stateInv_completed`. -/
theorem invariantKeptByEveryStep : Obligations.InvariantKeptByEveryStep := by
  intro s t hinv h
  cases stepsTo_of_step h with
  | reset c hs' => exact stateInv_hostReset c _
  | attempted hactive hangIn resetIn =>
    obtain ⟨-, -, -, -, -, hlegal⟩ := id hinv
    simp only [hactive, activeOk, Bool.and_eq_true, decide_eq_true_eq] at hlegal
    obtain ⟨⟨⟨hcount, hcfg⟩, horch⟩, -⟩ := hlegal
    exact stateInv_attempt hinv hcount hcfg horch
  | @executed i u hactive hfetch hexec hangIn resetIn =>
    have hu : StateInv u := exec_induction hexec (stateInv_accept hinv) fun hlegal =>
      stateInv_completed (stateInv_accept hinv) (by rw [accept_active, hactive]) hlegal
    exact hu
  | rejected hactive hangIn resetIn => exact stateInv_accept hinv
  | idle => exact hinv

end Sys2Proof.Machine
end

section
/-! Proofs about what a read gives back: the configuration that was written (42_register_access.md R156), and a
response that the operands, the parameters and the chain's bytes decide (R145). -/

namespace Sys2Proof.Machine

/-! ### What was written -/

theorem transaction_injective {kind kind' : WakeKind} {tx tx' rx rx' : List Byte}
    (h : transaction kind tx rx = transaction kind' tx' rx') : tx = tx' := by
  cases h
  rfl

/-- The bytes of a block stand before its PEC. -/
theorem withPec_getD (table : Vector (BitVec 16) 256) {bytes : List Byte} {j : Nat} (hj : j < bytes.length) :
    (withPec table bytes).getD j 0 = bytes.getD j 0 := by
  rw [withPec, List.getD_append _ _ _ _ hj]

/-- Settles O24: the trace fixes the bytes sent, so each block that comes back is the one written for its device, with
its PEC. -/
theorem writeThenReadRoundTrip : Obligations.WriteThenReadRoundTrip := by
  intro n blocks s t kind tx h1 hn hlen hexec htrace hecho
  rw [exec_wrcfg_of_legal h1 hn] at hexec
  cases hexec
  generalize ht : (transact .wrcfg 0 (loadBurst n blocks s)).respond .ok .absent = t at htrace hecho ⊢
  have hpar : t.par = s.par := by rw [← ht, State.respond_par, transact_loadBurst hn]
  have htx : tx = frame s.par.table (opcode s.par .wrcfg) ++ burstBlocks s.par.table blocks n n := by
    rw [← ht, State.respond_bus, transact_loadBurst hn, BusPort.afterTraffic_trace] at htrace
    exact (transaction_injective (List.append_cancel_left htrace)).symm
  have hblock {d : Nat} (hd : d < n) : streamBlock t.bus (8 * d) = withPec t.par.table (cfgtxRead blocks d) := by
    rw [hecho d hd, htx, frame_append_block _ _ _ (by omega), hpar, show n - 1 - (n - 1 - d) = d by omega]
  have hmatch : anyMismatch t.par t.bus 1 n = false := by
    simp only [anyMismatch, List.range_one, List.any_cons, List.any_nil, Bool.or_false, List.any_eq_false]
    intro d hd
    rw [blockPos, Nat.mul_zero, Nat.zero_add, hblock (List.mem_range.mp hd),
      mismatch_withPec _ (cfgtxRead_length blocks d)]
    exact Bool.false_ne_true
  have hpec : (readCfgCall n t).regs.pecErr = false := (readCfgCall_pecErr hn t).trans hmatch
  refine ⟨readCfgCall n t, exec_rdcfg_of_legal h1 hn t, fun d hd j hj => ?_, hpec,
    .blocks ((List.range n).map fun d => streamBlock t.bus (8 * d)), ?_⟩
  · rw [readCfgCall_cfgrx hn t (by omega) (by omega), if_pos hd, ← streamBlock_getD t.bus (8 * d) (by omega),
      hblock hd]
    exact withPec_getD _ (by rw [cfgtxRead_length]; exact hj)
  · rw [readCfgCall_host hn, hpec]
    rfl

/-! ### The response of a read -/

/-- The response of a legal read, from the parameters and the chain's bytes (42_register_access.md R145, R147). -/
def readResponse (p : Params) (bus : BusPort) (b : Bank) (g n : Nat) : Response where
  st := if anyMismatch p bus (if g = 0 then b.groups else 1) n then .pecError else .ok
  payload := .codes ((List.range n).flatMap fun d => (selectedChannels b g).map fun c =>
    codeOf (streamBlock bus (blockPos n (if g = 0 then c / 3 else 0) d)) (c % 3))

theorem readResponse_congr {b : Bank} {bus bus' : BusPort} (h : ∀ i, bus.byteAt i = bus'.byteAt i) (p : Params)
    (g n : Nat) : readResponse p bus b g n = readResponse p bus' b g n := by
  have hmismatch (k : Nat) : anyMismatch p bus k n = anyMismatch p bus' k n := by
    simp only [anyMismatch, streamBlock, h]
  rw [readResponse, readResponse, hmismatch]
  simp only [streamBlock, h]

/-- The channels of a selector are of the bank and of the groups it names. -/
theorem mem_selectedChannels {b : Bank} {g c : Nat} (hg : g ≤ b.groups) (hc : c ∈ selectedChannels b g) :
    c < b.channels ∧ (g = 0 ∨ c / 3 = g - 1) := by
  rw [selectedChannels_eq] at hc
  split at hc
  next h0 => exact ⟨List.mem_range.mp hc, .inl h0⟩
  next h0 =>
    simp only [List.mem_cons, List.not_mem_nil, or_false] at hc
    rw [Bank.channels]
    omega

theorem readCall_responses {b : Bank} {g n : Nat} (hg : g ≤ b.groups) (hn : n ≤ 16) (s : State) :
    (readCall b g n s).host.responses = s.host.responses ++ [readResponse s.par s.bus b g n] := by
  have hcodes : ((List.range n).flatMap fun d => (selectedChannels b g).map fun c => (readCall b g n s).codeAt b d c) =
      (List.range n).flatMap fun d => (selectedChannels b g).map fun c =>
        codeOf (streamBlock s.bus (blockPos n (if g = 0 then c / 3 else 0) d)) (c % 3) := by
    refine List.flatMap_congr fun d hd => List.map_congr_left fun c hc => ?_
    obtain ⟨hchannel, hgroup⟩ := mem_selectedChannels hg hc
    rw [readCall_codeAt b g hn s d hchannel, if_pos ⟨List.mem_range.mp hd, hgroup⟩]
  rw [readCall_host, readCall_pecErr b g hn, ← selectedChannels_eq, hcodes]
  rfl

/-- Every read gives one response, which its operands, the parameters and the chain's bytes decide. -/
theorem exec_readInstr_responses {b : Bank} {g n : Nat} {s t : State} (h : exec (readInstr b g n) s = .next t) :
    t.host.responses = s.host.responses ++
      [if b.groups < g ∨ n < 1 ∨ 16 < n then ⟨.configError, .absent⟩ else readResponse s.par s.bus b g n] := by
  have hmalformed : malformed (readInstr b g n) s ↔ b.groups < g ∨ n < 1 ∨ 16 < n := by cases b <;> exact Iff.rfl
  have hcompleted : completed (readInstr b g n) s = readCall b g n s := by cases b <;> rfl
  obtain ⟨hm, hexec⟩ | ⟨hm, hexec⟩ := exec_cases (readInstr b g n) s <;> (rw [hexec] at h; cases h) <;>
    rw [hmalformed] at hm
  · rw [if_pos hm]
    rfl
  · rw [if_neg hm, hcompleted, readCall_responses (by omega) (by omega)]

/-- Settles O43. -/
theorem readResponseDependsOnBytesOnly : Obligations.ReadResponseDependsOnBytesOnly := by
  intro b g n s1 s2 t1 t2 hpar hbytes h1 h2
  refine ⟨_, exec_readInstr_responses h1, ?_⟩
  rw [exec_readInstr_responses h2, hpar, readResponse_congr hbytes]

end Sys2Proof.Machine
end
